-- ==== Sys2Proof/Word.lean ====
section
/-! DEFINITION. The widths the manual gives to what software or a neighbour sees as bits. Everything else is a
number (Nat, Int) or a name of its own. -/
namespace Sys2Proof

/-- One character of the control message port, one byte of a telegram or of a settings record. -/
abbrev Byte := BitVec 8

/-- An event value, a CRC-16, a capture trigger set. -/
abbrev Word16 := BitVec 16

/-- A frame number, an energy counter, the CRC-32 of the settings image. -/
abbrev Word32 := BitVec 32

/-- Station time and elapsed time: 48-bit counts of milliseconds (R155). -/
abbrev Time := BitVec 48

end Sys2Proof
end

