-- ==== Sys2Proof/Syntax.lean ====
section
/-! DEFINITION. The commands of the part: one constructor per row of spec/opcode_table.json. The table gives its rows
no operands; the operands here are those the rules of the row name (an index, a level, the characters of a request).
Feeders, sections, groups, partners and terminals are counted from 0: feeder k of the manual is k - 1 here. -/
namespace Sys2Proof

/-- The two optical link ports (R90). -/
inductive Port where
  | up
  | dn
deriving DecidableEq, Repr

/-- The phase whose sync input made a rising zero crossing (R113). -/
inductive Phase where
  | a
  | b
  | c
deriving DecidableEq, Repr

/-- How the receiver of the control message port came to abandon a frame (R195). -/
inductive Abandon where
  /-- A character received more than 2 ms after the previous one: it is the first character of the new hunt. -/
  | lateCharacter (c : Byte)
  /-- A character received with its stop bit missing: it is itself discarded. -/
  | missingStopBit
deriving DecidableEq, Repr

/-- A conversion that has ended (R2, R4): the frame it was started for, and its result in thousandths of the unit of
the channel (log 5). -/
structure Conversion where
  frame : Word32
  milli : Int
deriving DecidableEq, Repr

/-- A measurement window that has ended (R12): its count of main-oscillator periods, and the levels of the eight address
straps at its end, since no row of the table stands for a change of a strap (R138, log 49). -/
structure Window where
  periods : Nat
  straps : Byte
deriving DecidableEq, Repr

/-- The commands. A request of the station computer carries its tag and its payload bytes as received whole. -/
inductive Instr where
  -- resets (R154); the operand is the level of the eight address straps
  | powerOn (straps : Byte)
  | resetPin (straps : Byte)
  -- acquisition
  | frameTrigger (lines : BitVec 16)
  | conversionComplete (ch : Fin 17) (result : Conversion)
  | channelFail (ch : Fin 17)
  | channelRestored (ch : Fin 17)
  | clockWindowEnd (window : Window)
  | clockFail
  | clockGood
  | sotfWindowEnd (k : Fin 6)
  -- breaker feedback and feeder sequences
  | bfbRawChange (k : Fin 6) (level : Bool)
  | bfbFilterExpiry (k : Fin 6)
  | closeTimerExpiry (k : Fin 6)
  | openTimerExpiry (k : Fin 6)
  | deadTimeExpiry (k : Fin 6)
  | reclaimExpiry (k : Fin 6)
  | settleExpiry (k : Fin 6)
  | lineTestWindowComplete (k : Fin 6)
  | retryExpiry (k : Fin 6)
  | tWaitExpiry (k : Fin 6)
  | liveLine (k : Fin 6)
  | closeFeeder (tag : Byte) (payload : List Byte)
  | openFeeder (tag : Byte) (payload : List Byte)
  | resetFeeder (tag : Byte) (payload : List Byte)
  | blockFeeder (tag : Byte) (payload : List Byte)
  | unblockFeeder (tag : Byte) (payload : List Byte)
  | readFeeder (tag : Byte) (payload : List Byte)
  -- neighbour links
  | telegramReceived (p : Port) (bytes : List Byte) (symbolError : Bool)
  | linkUp (j : Fin 4)
  | portSyncLoss (p : Port)
  | telegramPeriod
  | transmissionEnd (p : Port)
  | partnerTimeout (j : Fin 4)
  | testTelegramPeriod (p : Port)
  | testEchoTimeout (p : Port)
  | linkTestExpiry (p : Port)
  | readLink (tag : Byte) (payload : List Byte)
  | startLinkTest (tag : Byte) (payload : List Byte)
  | stopLinkTest (tag : Byte) (payload : List Byte)
  | readSections (tag : Byte) (payload : List Byte)
  -- rectifier
  | syncCrossing (g : Fin 2) (phase : Phase) (time : Nat)
  | crossingTimerExpiry (g : Fin 2)
  | syncStateChange (g : Fin 2)
  | firingInstant (g : Fin 2) (m : Fin 6)
  | firingPulseEnd (g : Fin 2)
  | overcurrent (g : Fin 2)
  | restartDelayExpiry (g : Fin 2)
  | restartHistoryAgeing (g : Fin 2)
  | enableGroup (tag : Byte) (payload : List Byte)
  | disableGroup (tag : Byte) (payload : List Byte)
  | resetGroup (tag : Byte) (payload : List Byte)
  | setVoltage (tag : Byte) (payload : List Byte)
  | readGroups (tag : Byte) (payload : List Byte)
  -- station
  | settingsLoadComplete
  | startComplete
  | frameFault
  | railEarthOperate
  | railHoldExpiry
  | railHistoryAgeing
  | resetRailEarthing (tag : Byte) (payload : List Byte)
  | hostSupervisionExpiry
  | readStationStatus (tag : Byte) (payload : List Byte)
  | runStation (tag : Byte) (payload : List Byte)
  | standbyStation (tag : Byte) (payload : List Byte)
  | resumeStation (tag : Byte) (payload : List Byte)
  | setTime (tag : Byte) (payload : List Byte)
  | restart (tag : Byte) (payload : List Byte)
  -- field terminals
  | throughSourceChange (t : Fin 16) (level : Bool)
  | setOutput (tag : Byte) (payload : List Byte)
  | readTerminals (tag : Byte) (payload : List Byte)
  -- events, measurements, captures
  | countEvents (tag : Byte) (payload : List Byte)
  | takeEvents (tag : Byte) (payload : List Byte)
  | averagePeriodComplete
  | readMeasurements (tag : Byte) (payload : List Byte)
  | readEnergy (tag : Byte) (payload : List Byte)
  | captureComplete
  | readCaptureStatus (tag : Byte) (payload : List Byte)
  | readCapture (tag : Byte) (payload : List Byte)
  | releaseCapture (tag : Byte) (payload : List Byte)
  | stopCapture (tag : Byte) (payload : List Byte)
  | triggerCapture (tag : Byte) (payload : List Byte)
  | enableCapture (tag : Byte) (payload : List Byte)
  | disableCapture (tag : Byte) (payload : List Byte)
  -- control message port and settings store
  | controlFrameDiscarded (chars : List Byte)
  | unknownRequest (kind : Byte) (tag : Byte) (payload : List Byte)
  | replySent
  | readSetting (tag : Byte) (payload : List Byte)
  | writeSetting (tag : Byte) (payload : List Byte)
  | storeSettings (tag : Byte) (payload : List Byte)
  | storeComplete
  | loadDefaults (tag : Byte) (payload : List Byte)
  | controlFrameAbandoned (gathered : List Byte) (how : Abandon)
  | idleSymbolReceived (p : Port)
deriving DecidableEq, Repr

end Sys2Proof
end

