-- ==== Sys2Proof/Decode.lean ====
section
/-! DEFINITION. The commands a word spells by the bits of spec/opcode_table.json. The table gives bits to none of its
93 rows (98_reader.md: n_rows_with_fixed 0), so no word spells a command. -/
namespace Sys2Proof

/-- The command that the nbits low bits of w spell: none, since no row of the table has bits. -/
def decodeTableWord (_nbits _w : Nat) : Option Instr := none

end Sys2Proof
end

