-- ==== Sys2Proof/Config.lean ====
section
/-! DEFINITION. The value the manual leaves open although the part goes on: a constant without a body, so that no
proof can see what it is. -/
namespace Sys2Proof.Config

/-- The 32-byte payload of the n-th TEST telegram since the start of a link test (R108). The manual names a
pseudo-random generator, restarted at each test start, and does not say which (log 9). -/
opaque testPayload : Nat → Vector Byte 32

end Sys2Proof.Config
end

