-- ==== Sys2Proof/Machine/Records.lean ====
section
/-! DEFINITION. The records each block of the part owns, as plain data, with their values after reset and the factory
defaults. Where a register's home is a settings record, the live record is the one home of it. -/
namespace Sys2Proof.Machine

open Sys2Proof

-- ===================================================================== acquisition (chapter 1)

/-- Channel health, and the health mark of a reading (section 1.5). -/
inductive Health where
  | good
  | stale
  | failed
deriving DecidableEq, Repr

/-- The states of the clock supervisor (section 1.7). -/
inductive Clock where
  | unproven
  | good
  | fail
deriving DecidableEq, Repr

/-- What a frame record carries for one channel (R5). -/
structure Reading where
  value : Int
  health : Health
  sat : Bool
deriving DecidableEq, Repr

/-- A frame record (R5). -/
structure FrameRecord where
  number : Word32
  readings : Vector Reading 17
deriving DecidableEq, Repr

/-- The health record, held value and conversion of one channel (R2, R4, section 1.5). -/
structure Channel where
  health : Health
  /-- 0..4 -/
  staleRun : Nat
  /-- 0..64 -/
  goodRun : Nat
  held : Int
  heldSat : Bool
  /-- a conversion is in progress for the frame in progress -/
  converting : Bool
  /-- the completed result that waits for the trigger ending the frame, with its SATURATED mark -/
  result : Option (Int × Bool)
deriving DecidableEq, Repr

/-- The acquisition unit (R17). The frame timer runs exactly while clock is good. -/
structure Aqu where
  clock : Clock
  badWindows : Nat
  goodWindows : Nat
  elapsedWindows : Nat
  /-- the latest window was judged stopped -/
  stopped : Bool
  /-- number of the frame in progress, or of the first frame after the timer starts -/
  nextFrame : Word32
  latest : FrameRecord
  channels : Vector Channel 17
deriving DecidableEq, Repr

-- ===================================================================== settings records (chapter 11)

/-- The STATION record. -/
structure StationCfg where
  uset : Nat
  droop : Nat
  ka : Nat
  alphaMin : Nat
  ilimG : Nat
  ilimSingle : Nat
  igTrip : Nat
  uov : Nat
  urpSet : Nat
  /-- ms -/
  tUrp : Nat
  /-- s -/
  tRpl : Nat
  ifeSet : Nat
  /-- ms -/
  tFe : Nat
  ubLtMin : Nat
  ulive : Nat
  /-- s, 0 for off -/
  hostSupervision : Nat
  eventAttention : Bool
deriving DecidableEq, Repr

/-- A FEEDER k general record. -/
structure FeederCfg where
  nAr : Nat
  /-- ms -/
  dt1 : Nat
  dt2 : Nat
  dt3 : Nat
  /-- s -/
  tReclaim : Nat
  /-- milliohms -/
  rt : Nat
  rltMin : Nat
  /-- ms -/
  tLtSettle : Nat
  tCloseMax : Nat
  tOpenMax : Nat
  /-- s -/
  tWait : Nat
  manualLt : Bool
  arOnImax : Bool
deriving DecidableEq, Repr

/-- A FEEDER k group record (R18). -/
structure GroupCfg where
  imax : Nat
  diSet : Nat
  /-- ms -/
  diTime : Nat
  didtStart : Nat
  didtHold : Nat
  iDt : Nat
  /-- ms -/
  tDt : Nat
deriving DecidableEq, Repr

/-- A SECTION s record. -/
structure SectionCfg where
  partner : Option (Fin 4)
  /-- 1..6, the index at the partner station -/
  partnerFeeder : Nat
  bOnReduced : Bool
deriving DecidableEq, Repr

/-- A PARTNER j record. -/
structure PartnerCfg where
  enabled : Bool
  address : Nat
  port : Port
  hops : Nat
deriving DecidableEq, Repr

/-- Terminal modes (section 8.2). -/
inductive TermMode where
  | inPlain
  | inFiltered
  | inFilteredInverted
  | outOpenDrain
  | outPushPull
  | through
deriving DecidableEq, Repr

/-- Terminal functions with their index (section 8.2). -/
inductive TermFn where
  | none
  | tempTrip (g : Fin 2)
  | localReset (k : Fin 6)
  | rplOut
  | rplFb
  | itIn (s : Fin 6)
  | itOut (s : Fin 6)
  | alarmOut
deriving DecidableEq, Repr

/-- A TERMINAL t record. -/
structure TermCfg where
  mode : TermMode
  fn : TermFn
  eventEnable : Bool
  source : Option (Fin 16)
deriving DecidableEq, Repr

/-- A capture descriptor (section 9.4). list holds the eight bytes of the record; the first count of them are the
channel list, the others are not examined (section 11.3). -/
structure Descriptor where
  count : Nat
  list : List Nat
  pre : Nat
  post : Nat
  triggers : Word16
deriving DecidableEq, Repr

/-- One copy of every settings record (R207). -/
structure Settings where
  station : StationCfg
  general : Vector FeederCfg 6
  groupA : Vector GroupCfg 6
  groupB : Vector GroupCfg 6
  sections : Vector SectionCfg 6
  partners : Vector PartnerCfg 4
  terminals : Vector TermCfg 16
  capture : Descriptor
deriving DecidableEq, Repr

-- ===================================================================== discriminator (chapter 2)

/-- The two setting groups. -/
inductive SetGroup where
  | a
  | b
deriving DecidableEq, Repr

/-- The discriminator record (R18). -/
structure Disc where
  filtered : Int
  /-- newest first, at most four values -/
  history : List Int
  slope : Int
  rising : Bool
  base : Int
  elapsed : Nat
  rise : Option Int
  imaxRun : Nat
  dtCount : Nat
  window : Nat
  windowOpen : Bool
  tripGiven : Bool
  groupInUse : SetGroup
  frame : Word32
deriving DecidableEq, Repr

-- ===================================================================== feeder sequence (chapter 4)

/-- Feeder states (R58). -/
inductive FState where
  | open
  | closing
  | closed
  | opening
  | deadTime
  | lineTest
  | waitPartner
  | lockedOut
  | blocked
deriving DecidableEq, Repr

/-- Test phases; none outside LINE_TEST. -/
inductive TestPhase where
  | settle
  | window
  | retry
deriving DecidableEq, Repr

/-- Trip origins. -/
inductive Origin where
  | none
  | own
  | intertrip
  | manual
  | channel
  | station
deriving DecidableEq, Repr

/-- Elements of an own-protection trip. -/
inductive Element where
  | none
  | imax
  | deltaI
  | defTime
  | external
deriving DecidableEq, Repr

/-- Destinations of an opening. -/
inductive Dest where
  | decide
  | waitPartner
  | open
  | blocked
  | lockedOut
deriving DecidableEq, Repr

/-- Lockout causes. -/
inductive LockCause where
  | none
  | closeFail
  | bf
  | arExhausted
  | noArImax
  | sotf
  | ltFailed
  | ltInvalid
  | partnerLocked
  | channel
deriving DecidableEq, Repr

/-- Block causes. -/
inductive BlockCause where
  | none
  | request
  | station
deriving DecidableEq, Repr

/-- How a close was reached. -/
inductive ClosePath where
  | tested
  | live
  | direct
deriving DecidableEq, Repr

/-- Outcomes of a line test. -/
inductive TestOutcome where
  | pass
  | fail
  | invalid
  | abandoned
  | cancelled
deriving DecidableEq, Repr

/-- The values of a completed test window (R76). -/
structure TestValues where
  ul : Nat
  ub : Nat
  frame : Word32
deriving DecidableEq, Repr

/-- The last test record (R58, R76). A test ended before its window completed has no window values (log 15). -/
structure TestRecord where
  outcome : TestOutcome
  rline : Nat
  values : Option TestValues
deriving DecidableEq, Repr

/-- What START keeps for the adoption (R82, R89). -/
inductive Kept where
  | currentFailed
  | voltageFailed
  | stationTrip
deriving DecidableEq, Repr

/-- The feeder record (R58). -/
structure Feeder where
  state : FState
  phase : Option TestPhase
  origin : Origin
  element : Element
  sotf : Bool
  dest : Option Dest
  attempt : Nat
  lockCause : LockCause
  blockCause : BlockCause
  manual : Bool
  path : ClosePath
  lost : Bool
  liveRun : Nat
  invalid : Nat
  sumUl : Nat
  sumUb : Nat
  count : Nat
  /-- ms remaining -/
  timer : Option Nat
  lastTest : Option TestRecord
  kept : List Kept
  /-- elapsed time when TRIP_k was last asserted -/
  tripAt : Time
deriving DecidableEq, Repr

-- ===================================================================== sections and partners (chapter 3)

/-- Partner summaries. -/
inductive Summary where
  | closed
  | open
  | testing
  | waiting
  | locked
  | unknown
deriving DecidableEq, Repr

/-- Line-test roles. -/
inductive Role where
  | none
  | leader
  | follower
deriving DecidableEq, Repr

/-- The derived fields of a section record (section 3.1). The active group is A exactly for DOUBLE (R47). -/
structure Section where
  double : Bool
  itOut : Bool
  itTelegram : Bool
  itTerminal : Bool
  summary : Summary
  porigin : Origin
  role : Role
deriving DecidableEq, Repr

-- ===================================================================== neighbour links (chapter 5)

/-- Station modes. -/
inductive Mode where
  | start
  | standby
  | normal
  | reduced
  | safe
deriving DecidableEq, Repr

/-- A section entry of a STATUS telegram (section 11.3). feeder is the sender's index 1..6. -/
structure Entry where
  feeder : Nat
  summary : Summary
  origin : Origin
  intertrip : Bool
  testing : Bool
deriving DecidableEq, Repr

/-- The kinds of telegram with their content. -/
inductive Body where
  | status (mode : Mode) (groups : Nat) (entries : List Entry)
  | test (payload : List Byte)
deriving DecidableEq, Repr

/-- A telegram, less its CRC-16, which is formed when it is sent. -/
structure Telegram where
  dest : Byte
  source : Byte
  hops : Nat
  seq : Byte
  body : Body
deriving DecidableEq, Repr

/-- A telegram of a transmit queue with its mark OWN or FORWARDED. -/
structure Queued where
  own : Bool
  telegram : Telegram
deriving DecidableEq, Repr

/-- The telegram in transmission, and whether the resync pattern goes before it (R92). -/
structure Sending where
  item : Queued
  afterResync : Bool
deriving DecidableEq, Repr

/-- Port states (R90). -/
inductive PortState where
  | syncing
  | inSync
  | testing
deriving DecidableEq, Repr

/-- An entry of the outstanding list (section 5.7). -/
structure Outstanding where
  seq : Byte
  payload : List Byte
  sentAt : Time
deriving DecidableEq, Repr

/-- A port record (R90). -/
structure PortRec where
  state : PortState
  disabled : Bool
  undecodable : Nat
  /-- ms -/
  silence : Nat
  queue : List Queued
  sending : Option Sending
  resyncDue : Bool
  /-- the queue is emptied when the telegram in transmission has finished (R92) -/
  emptyDue : Bool
  crcErr : Bool
  addrMismatch : Bool
  seqGap : Bool
  timeoutFlag : Bool
  resync : Bool
  forwarded : Word32
  dropped : Word32
  /-- ms remaining of the link test -/
  testLeft : Option Nat
  testSeq : Byte
  testBuilt : Nat
  outstanding : List Outstanding
  sent : Nat
  good : Nat
  errored : Nat
  missing : Nat
deriving DecidableEq, Repr

/-- The link fields of a partner entry (section 3.2, R99..R102). -/
structure LinkRec where
  up : Bool
  upCount : Nat
  lastSeq : Option Byte
  nextSeq : Byte
  /-- ms remaining -/
  timeout : Option Nat
  mode : Option Mode
  groups : Nat
  lastAccepted : Option Time
  /-- the accepted telegram that reached the third count, until LINK_UP hands it on -/
  held : Option Telegram
deriving DecidableEq, Repr

-- ===================================================================== rectifier (chapter 6)

/-- Group states (R112). -/
inductive GState where
  | off
  | starting
  | running
  | blocked
  | locked
  | disabled
deriving DecidableEq, Repr

/-- Blocking causes (R124). -/
inductive GCause where
  | overcurrent
  | temp
  | syncLost
  | channel
deriving DecidableEq, Repr

/-- The latest regulator update (R119). -/
structure Update where
  uref : Int
  e : Int
  step : Int
  ub : Int
  frame : Word32
deriving DecidableEq, Repr

/-- A group record (R112). SYNC_LOST is present exactly while the sync record is LOST. -/
structure GroupRec where
  state : GState
  alpha : Nat
  /-- thyristor 1..6, counted from 0 -/
  next : Fin 6
  /-- firing has begun since the entry to STARTING (R116) -/
  begun : Bool
  /-- µs: the phase-A crossing that begins the cycle of the next thyristor, once it has come (R115) -/
  anchor : Option Nat
  /-- the firing output asserted -/
  pulse : Option (Fin 6)
  currentLimit : Bool
  phasedBack : Bool
  overcurrent : Bool
  temp : Bool
  channel : Bool
  blockCause : Option GCause
  /-- lock cause RESTARTS -/
  lockRestarts : Bool
  ocRun : Nat
  /-- ms remaining; none in BLOCKED once it has expired -/
  delay : Option Nat
  history : List Time
  last : Option Update
deriving DecidableEq, Repr

/-- What the supervisor has seen of phases B and C since the latest phase-A crossing (R113). -/
inductive Seen where
  | nothing
  | b
  | bc
  | wrong
deriving DecidableEq, Repr

/-- A sync record (R113). -/
structure SyncRec where
  locked : Bool
  /-- us -/
  lastCross : Option Nat
  /-- the crossing before the latest (R115) -/
  prevCross : Option Nat
  /-- µs remaining of the 40 ms crossing timer; none while it is stopped -/
  crossTimer : Option Nat
  period : Option Nat
  good : Nat
  bad : Nat
  seen : Seen
deriving DecidableEq, Repr

-- ===================================================================== station (chapter 7)

/-- Kinds of reset (R154). -/
inductive RestartCause where
  | powerOn
  | resetPin
  | restartRequest
deriving DecidableEq, Repr

/-- The rail earthing contact (section 7.7). -/
inductive Contact where
  | released
  | held
  | latched
deriving DecidableEq, Repr

/-- The station record (R135) with the rail potential record (section 7.7). -/
structure Sts where
  mode : Mode
  /-- the start steps are COMPLETE -/
  complete : Bool
  run : Bool
  clockFail : Bool
  channelUb : Bool
  channelIfe : Bool
  frameFault : Bool
  breakerFail : Vector Bool 6
  available : Nat
  address : Option Byte
  restartCause : RestartCause
  present : Bool
  /-- ms remaining -/
  supTimer : Option Nat
  absentSince : Time
  ffCount : Nat
  ffDue : Bool
  ffValue : Int
  contact : Contact
  urInService : Bool
  stage1 : Nat
  stage2 : Nat
  stage1Due : Bool
  stage2Due : Bool
  /-- ms remaining -/
  hold : Option Nat
  railHistory : List Time
deriving DecidableEq, Repr

-- ===================================================================== field terminals (chapter 8)

/-- The fixed filter of a breaker feedback input (R158). -/
structure Bfb where
  raw : Bool
  reported : Bool
  /-- the first millisecond after reset has passed -/
  settled : Bool
  /-- windows of 100 us left of a filter run -/
  filter : Option Nat
deriving DecidableEq, Repr

/-- A programmable terminal: the configuration applied and the working state (section 8.2). -/
structure Terminal where
  cfg : TermCfg
  raw : Bool
  proc : Bool
  count : Nat
  change : Bool
  out : Bool
deriving DecidableEq, Repr

-- ===================================================================== events and captures (chapter 9)

/-- The blocks that log events, in the order of their codes from 1 (section 11.3). -/
inductive Block where
  | aqu
  | fpu
  | sco
  | nlc
  | rcu
  | sts
  | ftb
  | cps
  | sst
deriving DecidableEq, Repr

/-- The event kinds, in the order of their codes from 1 (R174). -/
inductive EventKind where
  | tripFeeder
  | breakerOpened
  | breakerClosed
  | breakerClosedLocal
  | recloseAttempt
  | lineTestResult
  | lockout
  | breakerFail
  | intertripSent
  | intertripReceived
  | groupChange
  | groupState
  | stationMode
  | safeCause
  | linkState
  | channelFail
  | channelRestored
  | railEarth
  | frameFault
  | hostAbsent
  | hostPresent
  | terminalChange
  | captureDone
  | settingsStored
  | settingsLost
deriving DecidableEq, Repr

/-- Capture references (R175). -/
inductive CapRef where
  | none
  | x
  | y
  | missed
deriving DecidableEq, Repr

/-- An entry of the event queue (section 9.1). -/
structure Event where
  time : Time
  sub : Nat
  unset : Bool
  block : Block
  index : Nat
  kind : EventKind
  value1 : Word16
  value2 : Word16
  ref : CapRef
  overflow : Bool
deriving DecidableEq, Repr

/-- The two capture buffers. -/
inductive BufId where
  | x
  | y
deriving DecidableEq, Repr

/-- Buffer states. -/
inductive BufState where
  | idle
  | armed
  | recording
  | full
deriving DecidableEq, Repr

/-- Completion causes. -/
inductive DoneCause where
  | none
  | postDone
  | stopped
  | disabled
deriving DecidableEq, Repr

/-- An entry of a trigger list (section 9.4); the source is its bit number in a trigger set. -/
structure TriggerEntry where
  source : Nat
  frame : Option Word32
  time : Time
  unset : Bool
deriving DecidableEq, Repr

/-- A capture buffer (section 9.4). frames stored is the length of frames. -/
structure CapBuf where
  state : BufState
  desc : Descriptor
  triggers : List TriggerEntry
  further : Nat
  first : Word32
  actualPre : Nat
  actualPost : Nat
  cause : DoneCause
  /-- oldest first; a slot holds the reading of each listed channel -/
  frames : List (List Reading)
  /-- stop pending, with the completion cause it will give -/
  stop : Option DoneCause
  /-- a frame has been taken with stop pending set -/
  stopFrame : Bool
deriving DecidableEq, Repr

/-- The capture store (section 9.4). The pending descriptor is the live CAPTURE record. -/
structure Cap where
  enabled : Bool
  toggle : BufId
  missed : Nat
  active : Descriptor
  x : CapBuf
  y : CapBuf
deriving DecidableEq, Repr

/-- One-second averages (R179). -/
structure Avg where
  sums : Vector Int 17
  counts : Vector Nat 17
  records : Nat
  means : Vector (Option Int) 17
  meanCounts : Vector Nat 17
  period : Nat
deriving DecidableEq, Repr

/-- Energy counters and accumulators (R181, R182). -/
structure Energy where
  delivered : Vector Word32 6
  returned : Vector Word32 6
  acc : Vector Int 6
  groupDelivered : Vector Word32 2
  groupAcc : Vector Int 2
  lastCounted : Word32
deriving DecidableEq, Repr

-- ===================================================================== settings store (chapter 11)

/-- Activities of the settings store. -/
inductive Activity where
  | loading
  | idle
  | storing
deriving DecidableEq, Repr

/-- The settings store. imageCrc is none while the stored CRC is marked invalid (R208). -/
structure Sst where
  activity : Activity
  lost : Bool
  confirm : Bool
  live : Settings
  copy : Option Settings
  image : List Byte
  imageCrc : Option Word32
deriving DecidableEq, Repr

-- ===================================================================== replies (chapter 10)

/-- The status codes (R200). -/
inductive Status where
  | ok
  | accepted
  | busy
  | unknownKind
  | badLength
  | badArgument
  | badSetting
  | refusedState
  | notFitted
deriving DecidableEq, Repr

/-- The SAFE causes present (R143). -/
structure SafeCauses where
  clockFail : Bool
  channelUb : Bool
  channelIfe : Bool
  frameFault : Bool
  breakerFail : Vector Bool 6
deriving DecidableEq, Repr

/-- The reply to Read Station Status (R156). -/
structure StationStatus where
  mode : Mode
  run : Bool
  complete : Bool
  causes : SafeCauses
  clock : Clock
  available : Nat
  running : Nat
  address : Option Byte
  addressInvalid : Bool
  settingsLost : Bool
  present : Bool
  supTimer : Option Nat
  ffCount : Nat
  ffSuspended : Bool
  contact : Contact
  urInService : Bool
  stage1 : Nat
  stage2 : Nat
  hold : Option Nat
  /-- the operation history as ages in s -/
  railAges : List Nat
  rplFb : Option Bool
  restartCause : RestartCause
  stationTime : Time
  unset : Bool
  elapsed : Time
deriving DecidableEq, Repr

/-- The reply to Read Feeder (R38, R88). -/
structure FeederView where
  filtered : Int
  slope : Int
  rising : Bool
  /-- base, elapsed and rise ΔI, in RISING -/
  riseView : Option (Int × Nat × Option Int)
  imaxRun : Nat
  dtCount : Nat
  window : Nat
  groupInUse : SetGroup
  frame : Word32
  state : FState
  phase : Option TestPhase
  origin : Origin
  element : Element
  sotf : Bool
  dest : Option Dest
  attempt : Nat
  limit : Nat
  lockCause : LockCause
  blockCause : BlockCause
  manual : Bool
  path : ClosePath
  lost : Bool
  liveRun : Nat
  invalid : Nat
  /-- the window count, in WINDOW -/
  count : Option Nat
  timer : Option Nat
  lastTest : Option TestRecord
  close : Bool
  trip : Bool
  ltc : Bool
  bfb : Bool
deriving DecidableEq, Repr

/-- What Read Groups returns of one group (R133). -/
structure GroupView where
  state : GState
  alpha : Nat
  next : Nat
  currentLimit : Bool
  phasedBack : Bool
  causes : List GCause
  blockCause : Option GCause
  lockRestarts : Bool
  ocRun : Nat
  delay : Option Nat
  historyAges : List Nat
  last : Option Update
  locked : Bool
  period : Option Nat
  good : Nat
  bad : Nat
  permitted : Bool
deriving DecidableEq, Repr

/-- What Read Sections returns of one section (R56). -/
structure SectionView where
  cfg : SectionCfg
  double : Bool
  active : SetGroup
  itOut : Bool
  itTelegram : Bool
  itTerminal : Bool
  itIn : Bool
  summary : Summary
  porigin : Origin
  role : Role
deriving DecidableEq, Repr

/-- What Read Sections returns of one partner entry (R56). -/
structure PartnerView where
  cfg : PartnerCfg
  up : Bool
  lastSeq : Option Byte
  mode : Option Mode
  groups : Nat
deriving DecidableEq, Repr

/-- What Read Link returns of one partner entry (R105). -/
structure LinkPartnerView where
  entry : Nat
  enabled : Bool
  address : Nat
  hops : Nat
  up : Bool
  upCount : Nat
  lastSeq : Option Byte
  nextSeq : Byte
  sinceAccepted : Option Nat
deriving DecidableEq, Repr

/-- The reply to Read Link (R105). -/
structure LinkView where
  state : PortState
  disabled : Bool
  crcErr : Bool
  addrMismatch : Bool
  seqGap : Bool
  timeoutFlag : Bool
  resync : Bool
  undecodable : Nat
  queued : Nat
  forwarded : Word32
  dropped : Word32
  partners : List LinkPartnerView
  testRunning : Bool
  secondsLeft : Nat
  sent : Nat
  good : Nat
  errored : Nat
  missing : Nat
deriving DecidableEq, Repr

/-- What Read Terminals returns of one terminal (R170). -/
structure TermView where
  mode : TermMode
  fn : TermFn
  eventEnable : Bool
  source : Option (Fin 16)
  raw : Bool
  /-- processed level and filter count, of an input -/
  proc : Option (Bool × Nat)
  /-- output level, of an output -/
  out : Option Bool
  change : Bool
deriving DecidableEq, Repr

/-- A buffer header with its state as Read Capture Status returns it (R192); an empty header has no descriptor. -/
structure BufView where
  state : BufState
  stored : Nat
  stopPending : Bool
  desc : Option Descriptor
  triggers : List TriggerEntry
  further : Nat
  first : Word32
  actualPre : Nat
  actualPost : Nat
  cause : DoneCause
deriving DecidableEq, Repr

/-- A frame of a capture record as Read Capture returns it (section 11.3). -/
structure CapFrame where
  number : Word32
  slot : List Reading
deriving DecidableEq, Repr

/-- The payload of a reply, by content. Formats.lean gives the bytes of those the manual lays out (log 23). -/
inductive Payload where
  | empty
  /-- BAD_ARGUMENT and BAD_SETTING: the offset of the first field out of range -/
  | offset (n : Nat)
  /-- a settings record: kind, index and record, or kind and index alone with BUSY -/
  | setting (kind index : Byte) (record : List Byte)
  /-- the settings store's own BUSY to Store Settings and Load Defaults: not empty, as the port's is (R198, log 23) -/
  | storeBusy
  | station (v : StationStatus)
  | runStation (mode : Mode) (available : Nat) (settingsLost : Bool)
  | mode (m : Mode)
  | causes (c : SafeCauses)
  | contact (c : Contact)
  | measurements (latest : FrameRecord) (means : Vector (Option Int) 17) (counts : Vector Nat 17) (period : Nat)
  | energy (e : Energy)
  | feeder (v : FeederView)
  | feederState (st : FState)
  | feederLock (st : FState) (cause : LockCause)
  | feederNamed (k : Fin 6) (st : FState)
  | groups (g1 g2 : GroupView) (uset stored available running : Nat)
  | groupState (st : GState)
  | voltage (v : Nat)
  | sections (s : List SectionView) (p : List PartnerView)
  | link (v : LinkView)
  | count (n : Nat) (overflow : Bool)
  | events (es : List Event)
  | captureStatus (enabled : Bool) (toggle : BufId) (missed : Nat) (active pending : Descriptor) (x y : BufView)
  | frames (b : BufId) (first : Nat) (fs : List CapFrame)
  | answer (r : CapRef)
  | terminals (ts : List TermView) (bfb : List Bool) (alarm : Bool)
  | terminalCfg (m : TermMode) (f : TermFn)
deriving DecidableEq, Repr

/-- A reply frame, less its CRC, which is formed as it is sent (R199). -/
structure Reply where
  kind : Byte
  tag : Byte
  status : Status
  payload : Payload
deriving DecidableEq, Repr

/-- The port record (section 10.2). -/
structure Cmp where
  receiving : Bool
  rx : List Byte
  reply : Option Reply
  busy : Option (Byte × Byte)
  restartPending : Bool
deriving DecidableEq, Repr

-- ===================================================================== factory defaults (R209)

/-- The STATION record's defaults (R58, R112, R135). -/
def StationCfg.default : StationCfg :=
  { uset := 780, droop := 30, ka := 8, alphaMin := 150, ilimG := 2500, ilimSingle := 3200, igTrip := 4500, uov := 900,
    urpSet := 120, tUrp := 1000, tRpl := 10, ifeSet := 30, tFe := 100, ubLtMin := 600, ulive := 600,
    hostSupervision := 8, eventAttention := true }

/-- The FEEDER general record's defaults (R58). -/
def FeederCfg.default : FeederCfg :=
  { nAr := 2, dt1 := 2000, dt2 := 10000, dt3 := 30000, tReclaim := 30, rt := 20000, rltMin := 2000, tLtSettle := 100,
    tCloseMax := 150, tOpenMax := 60, tWait := 60, manualLt := true, arOnImax := false }

/-- Group A's defaults (R18). -/
def GroupCfg.defaultA : GroupCfg :=
  { imax := 6000, diSet := 1500, diTime := 2, didtStart := 300, didtHold := 150, iDt := 3500, tDt := 2000 }

/-- Group B's defaults (R18). -/
def GroupCfg.defaultB : GroupCfg :=
  { imax := 4500, diSet := 1100, diTime := 2, didtStart := 220, didtHold := 110, iDt := 2600, tDt := 2000 }

/-- A SECTION record's default: partner none, partner feeder s (R57). -/
def SectionCfg.default (feeder : Nat) : SectionCfg := { partner := none, partnerFeeder := feeder, bOnReduced := false }

/-- A PARTNER record's default: not enabled, address j, UP, hops 0 (R57). -/
def PartnerCfg.default (j : Nat) : PartnerCfg := { enabled := false, address := j, port := .up, hops := 0 }

/-- A TERMINAL record's default (R171). -/
def TermCfg.default : TermCfg := { mode := .inPlain, fn := .none, eventEnable := false, source := none }

/-- The default capture descriptor (R183): channels 0, 1, 4..9, pre 800, post 3200, TRIP_1..TRIP_6, STATION, MANUAL. -/
def Descriptor.default : Descriptor :=
  { count := 8, list := [0, 1, 4, 5, 6, 7, 8, 9], pre := 800, post := 3200, triggers := 0x6FC0 }

/-- Every record at its factory default (R209). -/
def Settings.default : Settings :=
  { station := .default
    general := Vector.replicate 6 .default
    groupA := Vector.replicate 6 .defaultA
    groupB := Vector.replicate 6 .defaultB
    sections := #v[.default 1, .default 2, .default 3, .default 4, .default 5, .default 6]
    partners := #v[.default 1, .default 2, .default 3, .default 4]
    terminals := Vector.replicate 16 .default
    capture := .default }

-- ===================================================================== reset

/-- The acquisition unit after reset (R17). -/
def Aqu.reset : Aqu :=
  { clock := .unproven, badWindows := 0, goodWindows := 0, elapsedWindows := 0, stopped := false, nextFrame := 1
    latest := { number := 0, readings := Vector.replicate 17 { value := 0, health := .stale, sat := false } }
    channels := Vector.replicate 17
      { health := .stale, staleRun := 0, goodRun := 0, held := 0, heldSat := false, converting := false,
        result := none } }

/-- A discriminator after reset (R39). -/
def Disc.reset : Disc :=
  { filtered := 0, history := [], slope := 0, rising := false, base := 0, elapsed := 0, rise := none, imaxRun := 0,
    dtCount := 0, window := 0, windowOpen := false, tripGiven := false, groupInUse := .b, frame := 0 }

/-- A feeder record after reset (R89). -/
def Feeder.reset : Feeder :=
  { state := .open, phase := none, origin := .none, element := .none, sotf := false, dest := none, attempt := 0,
    lockCause := .none, blockCause := .none, manual := false, path := .direct, lost := false, liveRun := 0,
    invalid := 0, sumUl := 0, sumUb := 0, count := 0, timer := none, lastTest := none, kept := [], tripAt := 0 }

/-- A section's derived fields after reset (R57). -/
def Section.reset : Section :=
  { double := false, itOut := false, itTelegram := false, itTerminal := false, summary := .unknown, porigin := .none,
    role := .none }

/-- A partner's link fields after reset (R57, R111). -/
def LinkRec.reset : LinkRec :=
  { up := false, upCount := 0, lastSeq := none, nextSeq := 0, timeout := none, mode := none, groups := 0,
    lastAccepted := none, held := none }

/-- A port after reset (R111). -/
def PortRec.reset : PortRec :=
  { state := .syncing, disabled := false, undecodable := 0, silence := 0, queue := [], sending := none,
    resyncDue := false, emptyDue := false, crcErr := false, addrMismatch := false, seqGap := false, timeoutFlag := false,
    resync := false, forwarded := 0, dropped := 0, testLeft := none, testSeq := 0, testBuilt := 0, outstanding := [],
    sent := 0, good := 0, errored := 0, missing := 0 }

/-- A group record after reset (R134). -/
def GroupRec.reset : GroupRec :=
  { state := .off, alpha := 1500, next := 0, begun := false, anchor := none, pulse := none, currentLimit := false,
    phasedBack := false, overcurrent := false, temp := false, channel := false, blockCause := none,
    lockRestarts := false, ocRun := 0, delay := none, history := [], last := none }

/-- A sync record after reset (R134). -/
def SyncRec.reset : SyncRec :=
  { locked := false, lastCross := none, prevCross := none, crossTimer := none, period := none, good := 0, bad := 0,
    seen := .nothing }

/-- The station record after reset with restart cause c (R157). -/
def Sts.reset (c : RestartCause) : Sts :=
  { mode := .start, complete := false, run := false, clockFail := false, channelUb := false, channelIfe := false,
    frameFault := false, breakerFail := Vector.replicate 6 false, available := 2, address := none, restartCause := c,
    present := true, supTimer := none, absentSince := 0, ffCount := 0, ffDue := false, ffValue := 0,
    contact := .released, urInService := true, stage1 := 0, stage2 := 0, stage1Due := false, stage2Due := false,
    hold := none, railHistory := [] }

/-- A breaker feedback filter after reset, its input at level raw: the first millisecond runs (R158). -/
def Bfb.reset (raw : Bool) : Bfb := { raw := raw, reported := false, settled := false, filter := some 10 }

/-- A terminal after reset (R171). -/
def Terminal.reset : Terminal :=
  { cfg := .default, raw := false, proc := false, count := 0, change := false, out := false }

/-- An IDLE buffer with an empty header. -/
def CapBuf.idle : CapBuf :=
  { state := .idle, desc := .default, triggers := [], further := 0, first := 0, actualPre := 0, actualPost := 0,
    cause := .none, frames := [], stop := none, stopFrame := false }

/-- The averages after reset (R182). -/
def Avg.reset : Avg :=
  { sums := Vector.replicate 17 0, counts := Vector.replicate 17 0, records := 0, means := Vector.replicate 17 none,
    meanCounts := Vector.replicate 17 0, period := 0 }

/-- The energy accounting after reset (R182). -/
def Energy.reset : Energy :=
  { delivered := Vector.replicate 6 0, returned := Vector.replicate 6 0, acc := Vector.replicate 6 0,
    groupDelivered := Vector.replicate 2 0, groupAcc := Vector.replicate 2 0, lastCounted := 0 }

/-- The capture store after reset (R193). -/
def Cap.reset : Cap :=
  { enabled := false, toggle := .x, missed := 0, active := .default, x := .idle, y := .idle }

/-- The control message port after reset (R205). -/
def Cmp.reset : Cmp := { receiving := false, rx := [], reply := none, busy := none, restartPending := false }

/-- The settings store after reset, the image as it stands (R210). -/
def Sst.reset (image : List Byte) (crc : Option Word32) : Sst :=
  { activity := .loading, lost := false, confirm := false, live := .default, copy := none, image := image,
    imageCrc := crc }

end Sys2Proof.Machine
end

