-- ==== Sys2Proof/Machine/State.lean ====
section
/-! DEFINITION. The state of the part: the records of its blocks, the lines of its surroundings, time, and the queue of
commands, as plain data, and its value right after reset. -/
namespace Sys2Proof.Machine

open Sys2Proof

/-- The manual knows no fault that stops the part: a failure is an event, a state or a status code. Nothing raises
one. -/
inductive Fault where
deriving DecidableEq, Repr

/-- The refusals. -/
inductive Refusal where
  /-- Raised by an arm of exec whose command has no meaning yet; no arm is left so. Safe: the machine stops. -/
  | notModelled (mnemonic : String)
deriving DecidableEq, Repr

-- ===================================================================== the state

/-- The part, and the commands that wait. -/
structure State where
  pending : List Instr
  -- lines of the surroundings
  straps : Byte
  lines : BitVec 16
  -- time
  elapsed : Time
  stationTime : Time
  subUs : Nat
  unset : Bool
  -- blocks
  aqu : Aqu
  disc : Vector Disc 6
  feeder : Vector Feeder 6
  sec : Vector Section 6
  link : Vector LinkRec 4
  upPort : PortRec
  dnPort : PortRec
  group : Vector GroupRec 2
  sync : Vector SyncRec 2
  uset : Nat
  sts : Sts
  bfb : Vector Bfb 6
  term : Vector Terminal 16
  events : List Event
  avg : Avg
  energy : Energy
  cap : Cap
  cmp : Cmp
  sst : Sst
deriving DecidableEq, Repr

/-- The part right after the power-on reset, with nothing asked of it. The image and the input lines have no
reset value in the manual (log 10). -/
def State.reset : State :=
  { pending := []
    straps := 0
    lines := 0
    elapsed := 0
    stationTime := 0
    subUs := 0
    unset := true
    aqu := .reset
    disc := Vector.replicate 6 .reset
    feeder := Vector.replicate 6 .reset
    sec := Vector.replicate 6 .reset
    link := Vector.replicate 4 .reset
    upPort := .reset
    dnPort := .reset
    group := Vector.replicate 2 .reset
    sync := Vector.replicate 2 .reset
    uset := 780
    sts := .reset .powerOn
    bfb := Vector.replicate 6 (.reset false)
    term := Vector.replicate 16 .reset
    events := []
    avg := .reset
    energy := .reset
    cap := .reset
    cmp := .reset
    sst := .reset (List.replicate 445 0) (some 0) }

end Sys2Proof.Machine
end

