-- ==== Sys2Proof/Machine/Formats.lean ====
section
/-! DEFINITION. The byte layouts and codes of chapter 11, section 11.3, the two CRCs (R194, R207), and the validation of
settings records (R206). Multi-byte fields are most significant byte first. -/
namespace Sys2Proof.Machine

open Sys2Proof

-- ===================================================================== bytes

/-- The k low bytes of n, most significant first. -/
def beBytes : Nat → Nat → List Byte
  | 0, _ => []
  | k + 1, n => BitVec.ofNat 8 (n / 256 ^ k) :: beBytes k n

/-- The number a list of bytes spells, most significant first. -/
def beNat (bs : List Byte) : Nat := bs.foldl (fun a b => a * 256 + b.toNat) 0

/-- The number in the len bytes at offset off of a record. -/
def field (r : List Byte) (off len : Nat) : Nat := beNat ((r.drop off).take len)

/-- A signed quantity as a 16-bit event value: two's complement. -/
def word (i : Int) : Word16 := BitVec.ofInt 16 i

/-- An unsigned quantity as a 16-bit event value. -/
def uword (n : Nat) : Word16 := BitVec.ofNat 16 n

/-- Two named values in one event value, the first in the upper byte (section 11.3). -/
def pair (hi lo : Nat) : Word16 := BitVec.ofNat 16 (hi * 256 + lo)

/-- A yes/no field. -/
def bit (b : Bool) : Nat := if b then 1 else 0

-- ===================================================================== CRCs

/-- One bit of the CRC-16 register: polynomial 1021h, most significant bit first (R194). -/
def crc16Bit (c : Word16) : Word16 := if c.msb then (c <<< 1) ^^^ 0x1021#16 else c <<< 1

/-- One byte into the CRC-16 register. -/
def crc16Byte (c : Word16) (b : Byte) : Word16 :=
  let c := c ^^^ (b.setWidth 16 <<< 8)
  crc16Bit (crc16Bit (crc16Bit (crc16Bit (crc16Bit (crc16Bit (crc16Bit (crc16Bit c)))))))

/-- The CRC-16 of control frames and telegrams: register FFFFh at the start, no final inversion (R194). -/
def crc16 (bs : List Byte) : Word16 := bs.foldl crc16Byte 0xFFFF#16

/-- One bit of the CRC-32 register: polynomial 04C11DB7h, most significant bit first (R207). -/
def crc32Bit (c : Word32) : Word32 := if c.msb then (c <<< 1) ^^^ 0x04C11DB7#32 else c <<< 1

/-- One byte into the CRC-32 register. -/
def crc32Byte (c : Word32) (b : Byte) : Word32 :=
  let c := c ^^^ (b.setWidth 32 <<< 24)
  crc32Bit (crc32Bit (crc32Bit (crc32Bit (crc32Bit (crc32Bit (crc32Bit (crc32Bit c)))))))

/-- The CRC-32 of the settings image: register FFFFFFFFh at the start, inverted after the last byte (R207). -/
def crc32 (bs : List Byte) : Word32 := ~~~(bs.foldl crc32Byte 0xFFFFFFFF#32)

-- ===================================================================== codes of named values

/-- Feeder states. -/
def FState.code : FState → Nat
  | .open => 0 | .closing => 1 | .closed => 2 | .opening => 3 | .deadTime => 4 | .lineTest => 5 | .waitPartner => 6
  | .lockedOut => 7 | .blocked => 8

/-- Trip origins. -/
def Origin.code : Origin → Nat
  | .none => 0 | .own => 1 | .intertrip => 2 | .manual => 3 | .channel => 4 | .station => 5

/-- Elements. -/
def Element.code : Element → Nat
  | .none => 0 | .imax => 1 | .deltaI => 2 | .defTime => 3 | .external => 4

/-- Lockout causes. -/
def LockCause.code : LockCause → Nat
  | .none => 0 | .closeFail => 1 | .bf => 2 | .arExhausted => 3 | .noArImax => 4 | .sotf => 5 | .ltFailed => 6
  | .ltInvalid => 7 | .partnerLocked => 8 | .channel => 9

/-- Close paths. -/
def ClosePath.code : ClosePath → Nat
  | .tested => 0 | .live => 1 | .direct => 2

/-- Line-test outcomes. -/
def TestOutcome.code : TestOutcome → Nat
  | .pass => 0 | .fail => 1 | .invalid => 2 | .abandoned => 3 | .cancelled => 4

/-- Partner summaries. -/
def Summary.code : Summary → Nat
  | .closed => 0 | .open => 1 | .testing => 2 | .waiting => 3 | .locked => 4 | .unknown => 5

/-- Setting groups. -/
def SetGroup.code : SetGroup → Nat
  | .a => 0 | .b => 1

/-- Station modes. -/
def Mode.code : Mode → Nat
  | .start => 0 | .standby => 1 | .normal => 2 | .reduced => 3 | .safe => 4

/-- Group states. -/
def GState.code : GState → Nat
  | .off => 0 | .starting => 1 | .running => 2 | .blocked => 3 | .locked => 4 | .disabled => 5

/-- Terminal modes. -/
def TermMode.code : TermMode → Nat
  | .inPlain => 0 | .inFiltered => 1 | .inFilteredInverted => 2 | .outOpenDrain => 3 | .outPushPull => 4 | .through => 5

/-- Terminal functions: the code and the index byte, 0 where the function has none. -/
def TermFn.codes : TermFn → Nat × Nat
  | .none => (0, 0)
  | .tempTrip g => (1, g.val + 1)
  | .localReset k => (2, k.val + 1)
  | .rplOut => (3, 0)
  | .rplFb => (4, 0)
  | .itIn s => (5, s.val + 1)
  | .itOut s => (6, s.val + 1)
  | .alarmOut => (7, 0)

/-- Health codes of a capture marks byte. -/
def Health.code : Health → Nat
  | .good => 0 | .stale => 1 | .failed => 2

/-- Capture references. -/
def CapRef.code : CapRef → Nat
  | .none => 0 | .x => 1 | .y => 2 | .missed => 3

/-- Completion causes. -/
def DoneCause.code : DoneCause → Nat
  | .none => 0 | .postDone => 1 | .stopped => 2 | .disabled => 3

/-- Capture buffers. -/
def BufId.code : BufId → Nat
  | .x => 0 | .y => 1

/-- Ports. -/
def portCode : Port → Nat
  | .up => 0 | .dn => 1

/-- Source blocks. -/
def Block.code : Block → Nat
  | .aqu => 1 | .fpu => 2 | .sco => 3 | .nlc => 4 | .rcu => 5 | .sts => 6 | .ftb => 7 | .cps => 8 | .sst => 9

/-- Event kinds. -/
def EventKind.code : EventKind → Nat
  | .tripFeeder => 1 | .breakerOpened => 2 | .breakerClosed => 3 | .breakerClosedLocal => 4 | .recloseAttempt => 5
  | .lineTestResult => 6 | .lockout => 7 | .breakerFail => 8 | .intertripSent => 9 | .intertripReceived => 10
  | .groupChange => 11 | .groupState => 12 | .stationMode => 13 | .safeCause => 14 | .linkState => 15
  | .channelFail => 16 | .channelRestored => 17 | .railEarth => 18 | .frameFault => 19 | .hostAbsent => 20
  | .hostPresent => 21 | .terminalChange => 22 | .captureDone => 23 | .settingsStored => 24 | .settingsLost => 25

/-- Status codes (R200). -/
def Status.code : Status → Nat
  | .ok => 0 | .accepted => 1 | .busy => 2 | .unknownKind => 3 | .badLength => 4 | .badArgument => 5 | .badSetting => 6
  | .refusedState => 7 | .notFitted => 8

/-- Causes of a STATION_MODE event (R136). -/
inductive ModeCause where
  | startEnd
  | addressInvalid
  | safe
  | runRequest
  | groups
  | noGroup
  | standbyRequest
  | resume
deriving DecidableEq, Repr

/-- STATION_MODE cause codes. -/
def modeCauseCode : ModeCause → Nat
  | .startEnd => 0 | .addressInvalid => 1 | .safe => 2 | .runRequest => 3 | .groups => 4 | .noGroup => 5
  | .standbyRequest => 6 | .resume => 7

/-- SAFE causes (R143). -/
inductive SafeCause where
  | clockFail
  | channelUb
  | channelIfe
  | frameFault
  | breakerFail (k : Fin 6)
deriving DecidableEq, Repr

/-- value1 of SAFE_CAUSE: the cause above, the feeder of a BREAKER_FAIL below (section 11.3). -/
def safeCauseValue : SafeCause → Word16
  | .clockFail => pair 0 0
  | .channelUb => pair 1 0
  | .channelIfe => pair 2 0
  | .frameFault => pair 3 0
  | .breakerFail k => pair 4 (k.val + 1)

/-- Reasons of a GROUP_STATE event (R121). -/
inductive GReason where
  | start
  | running
  | cause (c : GCause)
  | restart
  | restarts
  | standby
  | safe
  | request
deriving DecidableEq, Repr

/-- GROUP_STATE reason codes. -/
def gReasonCode : GReason → Nat
  | .start => 0 | .running => 1 | .cause .overcurrent => 2 | .cause .temp => 3 | .cause .syncLost => 4
  | .cause .channel => 5 | .restart => 6 | .restarts => 7 | .standby => 8 | .safe => 9 | .request => 10

/-- Causes of a LINK_STATE event, from 1 (section 11.3). -/
inductive LinkCause where
  | undecodable
  | silence
  | testEnd
  | accepted
  | timeout
  | syncing
  | testing
  | reconfigured
deriving DecidableEq, Repr

/-- LINK_STATE cause codes. -/
def linkCauseCode : LinkCause → Nat
  | .undecodable => 1 | .silence => 2 | .testEnd => 3 | .accepted => 4 | .timeout => 5 | .syncing => 6 | .testing => 7
  | .reconfigured => 8

/-- RAIL_EARTH actions (R148..R151). -/
inductive RailAction where
  | operated
  | latched
  | released
  | holdRestarted
  | reset
  | outOfService
  | inService
deriving DecidableEq, Repr

/-- RAIL_EARTH action codes. -/
def railActionCode : RailAction → Nat
  | .operated => 0 | .latched => 1 | .released => 2 | .holdRestarted => 3 | .reset => 4 | .outOfService => 5
  | .inService => 6

-- ===================================================================== settings records

/-- Names a settings record: its kind and its index (section 11.1). -/
inductive RecId where
  | station
  | general (k : Fin 6)
  | groupA (k : Fin 6)
  | groupB (k : Fin 6)
  | sectionRec (s : Fin 6)
  | partner (j : Fin 4)
  | terminal (t : Fin 16)
  | capture
deriving DecidableEq, Repr

/-- All records in the order of their kind codes and ascending index (R207, R209). -/
def RecId.all : List RecId :=
  [[.station], [.general 0, .general 1, .general 2, .general 3, .general 4, .general 5],
   [.groupA 0, .groupA 1, .groupA 2, .groupA 3, .groupA 4, .groupA 5],
   [.groupB 0, .groupB 1, .groupB 2, .groupB 3, .groupB 4, .groupB 5],
   [.sectionRec 0, .sectionRec 1, .sectionRec 2, .sectionRec 3, .sectionRec 4, .sectionRec 5],
   [.partner 0, .partner 1, .partner 2, .partner 3],
   [.terminal 0, .terminal 1, .terminal 2, .terminal 3, .terminal 4, .terminal 5, .terminal 6, .terminal 7],
   [.terminal 8, .terminal 9, .terminal 10, .terminal 11, .terminal 12, .terminal 13, .terminal 14, .terminal 15],
   [.capture]].flatten

/-- The length of a record of a kind (section 11.3); none for a kind outside 1..8. -/
def recordLength : Nat → Option Nat
  | 1 => some 28 | 2 => some 22 | 3 => some 13 | 4 => some 13 | 5 => some 3 | 6 => some 4 | 7 => some 5 | 8 => some 15
  | _ => none

/-- The length of the record an identifier names. -/
def RecId.length : RecId → Nat
  | .station => 28
  | .general _ => 22
  | .groupA _ => 13
  | .groupB _ => 13
  | .sectionRec _ => 3
  | .partner _ => 4
  | .terminal _ => 5
  | .capture => 15

/-- An index 1..n as a Fin. -/
def index1 (n : Nat) (i : Nat) : Option (Fin n) := if h : 1 ≤ i ∧ i ≤ n then some ⟨i - 1, by omega⟩ else none

/-- The record that a kind code and an index name (section 11.1); none where the index is out of range. -/
def RecId.ofCodes (kind idx : Nat) : Option RecId :=
  match kind with
  | 1 => if idx = 0 then some .station else none
  | 2 => (index1 6 idx).map .general
  | 3 => (index1 6 idx).map .groupA
  | 4 => (index1 6 idx).map .groupB
  | 5 => (index1 6 idx).map .sectionRec
  | 6 => (index1 4 idx).map .partner
  | 7 => (index1 16 idx).map .terminal
  | 8 => if idx = 0 then some .capture else none
  | _ => none

/-- The STATION record's bytes. -/
def encodeStation (c : StationCfg) : List Byte :=
  [beBytes 2 c.uset, beBytes 1 c.droop, beBytes 1 c.ka, beBytes 2 c.alphaMin, beBytes 2 c.ilimG,
   beBytes 2 c.ilimSingle, beBytes 2 c.igTrip, beBytes 2 c.uov, beBytes 2 c.urpSet, beBytes 2 c.tUrp,
   beBytes 1 c.tRpl, beBytes 1 c.ifeSet, beBytes 2 c.tFe, beBytes 2 c.ubLtMin, beBytes 2 c.ulive,
   beBytes 1 c.hostSupervision, beBytes 1 (bit c.eventAttention)].flatten

/-- The STATION record that 28 bytes spell. -/
def parseStation (r : List Byte) : StationCfg :=
  { uset := field r 0 2, droop := field r 2 1, ka := field r 3 1, alphaMin := field r 4 2, ilimG := field r 6 2,
    ilimSingle := field r 8 2, igTrip := field r 10 2, uov := field r 12 2, urpSet := field r 14 2,
    tUrp := field r 16 2, tRpl := field r 18 1, ifeSet := field r 19 1, tFe := field r 20 2, ubLtMin := field r 22 2,
    ulive := field r 24 2, hostSupervision := field r 26 1, eventAttention := field r 27 1 == 1 }

/-- The FEEDER general record's bytes. -/
def encodeGeneral (c : FeederCfg) : List Byte :=
  [beBytes 1 c.nAr, beBytes 2 c.dt1, beBytes 2 c.dt2, beBytes 2 c.dt3, beBytes 2 c.tReclaim, beBytes 2 c.rt,
   beBytes 2 c.rltMin, beBytes 2 c.tLtSettle, beBytes 2 c.tCloseMax, beBytes 1 c.tOpenMax, beBytes 2 c.tWait,
   beBytes 1 (bit c.manualLt), beBytes 1 (bit c.arOnImax)].flatten

/-- The FEEDER general record that 22 bytes spell. -/
def parseGeneral (r : List Byte) : FeederCfg :=
  { nAr := field r 0 1, dt1 := field r 1 2, dt2 := field r 3 2, dt3 := field r 5 2, tReclaim := field r 7 2,
    rt := field r 9 2, rltMin := field r 11 2, tLtSettle := field r 13 2, tCloseMax := field r 15 2,
    tOpenMax := field r 17 1, tWait := field r 18 2, manualLt := field r 20 1 == 1, arOnImax := field r 21 1 == 1 }

/-- A group record's bytes. -/
def encodeGroup (c : GroupCfg) : List Byte :=
  [beBytes 2 c.imax, beBytes 2 c.diSet, beBytes 1 c.diTime, beBytes 2 c.didtStart, beBytes 2 c.didtHold,
   beBytes 2 c.iDt, beBytes 2 c.tDt].flatten

/-- The group record that 13 bytes spell. -/
def parseGroup (r : List Byte) : GroupCfg :=
  { imax := field r 0 2, diSet := field r 2 2, diTime := field r 4 1, didtStart := field r 5 2,
    didtHold := field r 7 2, iDt := field r 9 2, tDt := field r 11 2 }

/-- A SECTION record's bytes. -/
def encodeSection (c : SectionCfg) : List Byte :=
  beBytes 1 (match c.partner with | none => 0 | some j => j.val + 1) ++ beBytes 1 c.partnerFeeder ++
  beBytes 1 (bit c.bOnReduced)

/-- The SECTION record that 3 bytes spell. -/
def parseSection (r : List Byte) : SectionCfg :=
  { partner := index1 4 (field r 0 1), partnerFeeder := field r 1 1, bOnReduced := field r 2 1 == 1 }

/-- A PARTNER record's bytes. -/
def encodePartner (c : PartnerCfg) : List Byte :=
  beBytes 1 (bit c.enabled) ++ beBytes 1 c.address ++ beBytes 1 (portCode c.port) ++ beBytes 1 c.hops

/-- The PARTNER record that 4 bytes spell. -/
def parsePartner (r : List Byte) : PartnerCfg :=
  { enabled := field r 0 1 == 1, address := field r 1 1, port := if field r 2 1 = 0 then .up else .dn,
    hops := field r 3 1 }

/-- The terminal mode of a code. -/
def TermMode.ofCode : Nat → Option TermMode
  | 0 => some .inPlain | 1 => some .inFiltered | 2 => some .inFilteredInverted | 3 => some .outOpenDrain
  | 4 => some .outPushPull | 5 => some .through | _ => none

/-- The terminal function of a code and its index byte; none where the index does not fit the function. -/
def TermFn.ofCodes (code idx : Nat) : Option TermFn :=
  match code with
  | 0 => if idx = 0 then some .none else none
  | 1 => (index1 2 idx).map .tempTrip
  | 2 => (index1 6 idx).map .localReset
  | 3 => if idx = 0 then some .rplOut else none
  | 4 => if idx = 0 then some .rplFb else none
  | 5 => (index1 6 idx).map .itIn
  | 6 => (index1 6 idx).map .itOut
  | 7 => if idx = 0 then some .alarmOut else none
  | _ => none

/-- A TERMINAL record's bytes. -/
def encodeTerminal (c : TermCfg) : List Byte :=
  beBytes 1 c.mode.code ++ beBytes 1 c.fn.codes.1 ++ beBytes 1 c.fn.codes.2 ++ beBytes 1 (bit c.eventEnable) ++
  beBytes 1 (match c.source with | none => 0 | some t => t.val + 1)

/-- The TERMINAL record that 5 bytes spell; outside THROUGH the source is kept as none (R166), and so stands in the reply
too, which R206 has differ from the record written in a CAPTURE record alone (log 45). -/
def parseTerminal (r : List Byte) : TermCfg :=
  let mode := (TermMode.ofCode (field r 0 1)).getD .inPlain
  { mode := mode, fn := (TermFn.ofCodes (field r 1 1) (field r 2 1)).getD .none, eventEnable := field r 3 1 == 1,
    source := if mode = .through then index1 16 (field r 4 1) else none }

/-- A CAPTURE record's bytes. -/
def encodeCapture (c : Descriptor) : List Byte :=
  beBytes 1 c.count ++ ((c.list ++ List.replicate 8 0).take 8).map (BitVec.ofNat 8) ++ beBytes 2 c.pre ++
  beBytes 2 c.post ++ beBytes 2 c.triggers.toNat

/-- The CAPTURE record that 15 bytes spell, its post reduced to 4096 - pre (R183). -/
def parseCapture (r : List Byte) : Descriptor :=
  let pre := field r 9 2
  { count := field r 0 1, list := ((r.drop 1).take 8).map BitVec.toNat, pre := pre,
    post := min (field r 11 2) (4096 - pre), triggers := BitVec.ofNat 16 (field r 13 2) }

/-- The bytes of one record of a set. -/
def Settings.encode (c : Settings) : RecId → List Byte
  | .station => encodeStation c.station
  | .general k => encodeGeneral c.general[k]
  | .groupA k => encodeGroup c.groupA[k]
  | .groupB k => encodeGroup c.groupB[k]
  | .sectionRec s => encodeSection c.sections[s]
  | .partner j => encodePartner c.partners[j]
  | .terminal t => encodeTerminal c.terminals[t]
  | .capture => encodeCapture c.capture

/-- The set with one record replaced whole by what its bytes spell. -/
def Settings.put (c : Settings) (r : List Byte) : RecId → Settings
  | .station => { c with station := parseStation r }
  | .general k => { c with general := c.general.set k (parseGeneral r) }
  | .groupA k => { c with groupA := c.groupA.set k (parseGroup r) }
  | .groupB k => { c with groupB := c.groupB.set k (parseGroup r) }
  | .sectionRec s => { c with sections := c.sections.set s (parseSection r) }
  | .partner j => { c with partners := c.partners.set j (parsePartner r) }
  | .terminal t => { c with terminals := c.terminals.set t (parseTerminal r) }
  | .capture => { c with capture := parseCapture r }

-- ===================================================================== validation (R206)

/-- A value in lo..hi. -/
def inRange (lo hi v : Nat) : Bool := lo ≤ v && v ≤ hi

/-- A value in lo..hi on its step. -/
def onStep (lo hi step v : Nat) : Bool := inRange lo hi v && v % step == 0

/-- The offset of the first test that does not hold. -/
def firstBad : List (Bool × Nat) → Option Nat
  | [] => none
  | (ok, off) :: rest => if ok then firstBad rest else some off

/-- Ranges of the STATION record (R58, R112, R135). -/
def stationTests (r : List Byte) : List (Bool × Nat) :=
  [(inRange 600 900 (field r 0 2), 0), (inRange 0 60 (field r 2 1), 2), (inRange 1 64 (field r 3 1), 3),
   (inRange 50 300 (field r 4 2), 4), (inRange 500 4000 (field r 6 2), 6), (inRange 500 4000 (field r 8 2), 8),
   (inRange 1000 6000 (field r 10 2), 10), (inRange 800 1000 (field r 12 2), 12), (inRange 60 150 (field r 14 2), 14),
   (onStep 100 10000 100 (field r 16 2), 16), (inRange 1 60 (field r 18 1), 18), (inRange 5 100 (field r 19 1), 19),
   (inRange 10 1000 (field r 20 2), 20), (inRange 400 800 (field r 22 2), 22), (inRange 400 900 (field r 24 2), 24),
   ([0, 1, 2, 4, 8, 16, 32, 64, 128].contains (field r 26 1), 26), (inRange 0 1 (field r 27 1), 27)]

/-- Ranges of a FEEDER general record (R58). -/
def generalTests (r : List Byte) : List (Bool × Nat) :=
  [(inRange 0 3 (field r 0 1), 0), (onStep 500 60000 100 (field r 1 2), 1), (onStep 500 60000 100 (field r 3 2), 3),
   (onStep 500 60000 100 (field r 5 2), 5), (inRange 1 300 (field r 7 2), 7), (inRange 5000 50000 (field r 9 2), 9),
   (inRange 500 20000 (field r 11 2), 11), (inRange 50 500 (field r 13 2), 13), (inRange 20 500 (field r 15 2), 15),
   (inRange 10 200 (field r 17 1), 17), (inRange 5 300 (field r 18 2), 18), (inRange 0 1 (field r 20 1), 20),
   (inRange 0 1 (field r 21 1), 21)]

/-- Ranges and relations of a group record (R18, R19): DIDT_HOLD not above DIDT_START, I_DT below IMAX. -/
def groupTests (r : List Byte) : List (Bool × Nat) :=
  [(onStep 1000 8000 10 (field r 0 2), 0), (onStep 200 4000 10 (field r 2 2), 2), (inRange 1 200 (field r 4 1), 4),
   (inRange 10 2000 (field r 5 2), 5), (decide (5 ≤ field r 7 2), 7), (onStep 200 6000 10 (field r 9 2), 9),
   (inRange 100 60000 (field r 11 2), 11),
   (decide (field r 7 2 ≤ field r 5 2), 7), (decide (field r 9 2 < field r 0 2), 9)]

/-- No other section of the set names the same partner entry with the same partner feeder (R40). -/
def sectionUnique (c : Settings) (s : Fin 6) (n : SectionCfg) : Bool :=
  n.partner.isNone ||
  [(0 : Fin 6), 1, 2, 3, 4, 5].all fun o =>
    o == s || c.sections[o].partner != n.partner || c.sections[o].partnerFeeder != n.partnerFeeder

/-- Ranges and uniqueness of a SECTION record (R40). -/
def sectionTests (c : Settings) (s : Fin 6) (r : List Byte) : List (Bool × Nat) :=
  [(inRange 0 4 (field r 0 1), 0), (inRange 1 6 (field r 1 1), 1), (inRange 0 1 (field r 2 1), 2),
   (sectionUnique c s (parseSection r), 1)]

/-- No other enabled partner entry of the set has the same address (R41). -/
def partnerUnique (c : Settings) (j : Fin 4) (n : PartnerCfg) : Bool :=
  !n.enabled ||
  [(0 : Fin 4), 1, 2, 3].all fun o => o == j || !c.partners[o].enabled || c.partners[o].address != n.address

/-- Ranges and uniqueness of a PARTNER record (R41). -/
def partnerTests (c : Settings) (j : Fin 4) (r : List Byte) : List (Bool × Nat) :=
  [(inRange 0 1 (field r 0 1), 0), (inRange 1 250 (field r 1 1), 1), (inRange 0 1 (field r 2 1), 2),
   (inRange 0 2 (field r 3 1), 3), (partnerUnique c j (parsePartner r), 1)]

/-- An input mode. -/
def TermMode.isInput : TermMode → Bool
  | .inPlain => true | .inFiltered => true | .inFilteredInverted => true | .outOpenDrain => false
  | .outPushPull => false | .through => false

/-- An output mode: OUT_OPEN_DRAIN or OUT_PUSH_PULL. -/
def TermMode.isOutput : TermMode → Bool
  | .outOpenDrain => true | .outPushPull => true | .inPlain => false | .inFiltered => false
  | .inFilteredInverted => false | .through => false

/-- A function of the input kind (section 8.2). -/
def TermFn.isInput : TermFn → Bool
  | .tempTrip _ => true | .localReset _ => true | .rplFb => true | .itIn _ => true
  | .none => false | .rplOut => false | .itOut _ => false | .alarmOut => false

/-- A function of the output kind (section 8.2). -/
def TermFn.isOutput : TermFn → Bool
  | .rplOut => true | .itOut _ => true | .alarmOut => true
  | .none => false | .tempTrip _ => false | .localReset _ => false | .rplFb => false | .itIn _ => false

/-- The sixteen terminals. -/
def terminals16 : List (Fin 16) := [0, 1, 2, 3, 4, 5, 6, 7, 8, 9, 10, 11, 12, 13, 14, 15]

/-- The relations of a TERMINAL record against the others of the set, in the order of R166. -/
def terminalRelations (c : Settings) (t : Fin 16) (n : TermCfg) : List (Bool × Nat) :=
  [(!(n.fn.isInput && !n.mode.isInput), 1),
   (!(n.fn.isOutput && !n.mode.isOutput), 1),
   (!(n.mode == .through && n.fn != .none), 1),
   (n.mode != .through ||
      (match n.source with
       | none => false
       | some o => o != t && c.terminals[o].mode.isInput), 4),
   (n.fn == .none || terminals16.all fun o => o == t || c.terminals[o].fn != n.fn, 1),
   (n.mode.isInput || terminals16.all fun o =>
      o == t || c.terminals[o].mode != .through || c.terminals[o].source != some t, 0)]

/-- Ranges and relations of a TERMINAL record (R166). -/
def terminalTests (c : Settings) (t : Fin 16) (r : List Byte) : List (Bool × Nat) :=
  [(inRange 0 5 (field r 0 1), 0), (inRange 0 7 (field r 1 1), 1),
   ((TermFn.ofCodes (field r 1 1) (field r 2 1)).isSome, 2), (inRange 0 1 (field r 3 1), 3),
   (inRange 0 16 (field r 4 1), 4)] ++ terminalRelations c t (parseTerminal r)

/-- The channel numbers a CAPTURE record lists; the bytes of the list past the count are not examined (section 11.3). -/
def listedChannels (r : List Byte) : List Nat := (((r.drop 1).take 8).take (field r 0 1)).map BitVec.toNat

/-- The channel list of a CAPTURE record: every number 0..16, none twice (R183). -/
def channelListValid (l : List Nat) : Bool := l.all (· ≤ 16) && decide l.Nodup

/-- Ranges of a CAPTURE record (R183); the channel list is one field of eight bytes, and bit 15 of the trigger set must be
0 (section 11.3). -/
def captureTests (r : List Byte) : List (Bool × Nat) :=
  [(inRange 1 8 (field r 0 1), 0), (channelListValid (listedChannels r), 1), (inRange 0 2048 (field r 9 2), 9),
   (inRange 1 4096 (field r 11 2), 11), (decide (field r 13 2 < 0x8000), 13)]

/-- Validates a record as one whole against the other records of a set: the offset of the first field that fails
(R206). -/
def Settings.badOffset (c : Settings) (r : List Byte) : RecId → Option Nat
  | .station => firstBad (stationTests r)
  | .general _ => firstBad (generalTests r)
  | .groupA _ => firstBad (groupTests r)
  | .groupB _ => firstBad (groupTests r)
  | .sectionRec s => firstBad (sectionTests c s r)
  | .partner j => firstBad (partnerTests c j r)
  | .terminal t => firstBad (terminalTests c t r)
  | .capture => firstBad (captureTests r)

-- ===================================================================== the image (R207, R210)

/-- The 445 bytes of an image of a set of records. -/
def Settings.image (c : Settings) : List Byte := RecId.all.flatMap c.encode

/-- Puts the records of an image into a set, one after another. -/
def putAll : List RecId → List Byte → Settings → Settings
  | [], _, c => c
  | i :: rest, bs, c => putAll rest (bs.drop i.length) (c.put (bs.take i.length) i)

/-- Every record of an image passes the validation of R206 against the set. -/
def allValid (c : Settings) : List RecId → List Byte → Bool
  | [], _ => true
  | i :: rest, bs => (c.badOffset (bs.take i.length) i).isNone && allValid c rest (bs.drop i.length)

/-- The records of an image, where every one of them passes the validation, relations included (R210). -/
def parseImage (bs : List Byte) : Option Settings :=
  let c := putAll RecId.all bs .default
  if bs.length = 445 ∧ allValid c RecId.all bs then some c else none

-- ===================================================================== link telegrams

/-- A section entry's four bytes. -/
def Entry.bytes (e : Entry) : List Byte :=
  [BitVec.ofNat 8 e.feeder, BitVec.ofNat 8 e.summary.code, BitVec.ofNat 8 e.origin.code,
   BitVec.ofNat 8 (bit e.intertrip + 2 * bit e.testing)]

/-- A telegram's bytes before its CRC-16. -/
def Telegram.content (t : Telegram) : List Byte :=
  match t.body with
  | .status m g es =>
    [t.dest, t.source, BitVec.ofNat 8 t.hops, 1, t.seq, BitVec.ofNat 8 m.code, BitVec.ofNat 8 g,
     BitVec.ofNat 8 es.length] ++ es.flatMap Entry.bytes
  | .test p => [t.dest, t.source, BitVec.ofNat 8 t.hops, 2, t.seq] ++ p

/-- A telegram between its start and end symbols, the CRC-16 formed afresh (R95, R104). -/
def Telegram.bytes (t : Telegram) : List Byte := t.content ++ beBytes 2 (crc16 t.content).toNat

/-- A station mode a telegram may carry: STANDBY, NORMAL, REDUCED or SAFE (R91). -/
def telegramMode : Nat → Option Mode
  | 1 => some .standby | 2 => some .normal | 3 => some .reduced | 4 => some .safe | _ => none

/-- A summary a telegram may carry (R91). -/
def telegramSummary : Nat → Option Summary
  | 0 => some .closed | 1 => some .open | 2 => some .testing | 3 => some .waiting | 4 => some .locked | _ => none

/-- An origin a telegram may carry (R91). -/
def telegramOrigin : Nat → Option Origin
  | 0 => some .none | 1 => some .own | 2 => some .intertrip | 3 => some .manual | _ => none

/-- One section entry from its four bytes; none where a field is out of range (R91). -/
def parseEntry (f s o g : Byte) : Option Entry :=
  if 1 ≤ f.toNat ∧ f.toNat ≤ 6 ∧ g.toNat < 4 then
    match telegramSummary s.toNat, telegramOrigin o.toNat with
    | some s, some o =>
      some { feeder := f.toNat, summary := s, origin := o, intertrip := g.getLsbD 0, testing := g.getLsbD 1 }
    | _, _ => none
  else none

/-- n section entries, which must use up the bytes (R91: the length agrees with the count). -/
def parseEntries : Nat → List Byte → Option (List Entry)
  | 0, bs => if bs.isEmpty then some [] else none
  | n + 1, f :: s :: o :: g :: rest =>
    match parseEntry f s o g, parseEntries n rest with
    | some e, some es => some (e :: es)
    | _, _ => none
  | _ + 1, _ => none

/-- The content of a telegram, judged by R91. -/
def parseContent : List Byte → Option Telegram
  | d :: src :: h :: kind :: q :: rest =>
    if h.toNat > 2 then none
    else if kind = 1 then
      match rest with
      | m :: g :: n :: es =>
        if g.toNat > 2 ∨ n.toNat > 6 then none
        else
          match telegramMode m.toNat, parseEntries n.toNat es with
          | some m, some es =>
            some { dest := d, source := src, hops := h.toNat, seq := q, body := .status m g.toNat es }
          | _, _ => none
      | _ => none
    else if kind = 2 then
      if rest.length = 32 then some { dest := d, source := src, hops := h.toNat, seq := q, body := .test rest } else none
    else none
  | _ => none

/-- A telegram as received: none when it is undecodable by its CRC-16, length, kind or fields (R91). -/
def decodeTelegram (bs : List Byte) : Option Telegram :=
  let n := bs.length - 2
  if bs.length ≥ 2 ∧ beNat (bs.drop n) = (crc16 (bs.take n)).toNat then parseContent (bs.take n) else none

-- ===================================================================== events, captures, replies

/-- An event entry's 15 bytes (section 11.3). -/
def Event.bytes (e : Event) : List Byte :=
  [beBytes 6 e.time.toNat, beBytes 1 (e.sub + 64 * bit e.unset + 128 * bit e.overflow),
   beBytes 1 e.block.code, beBytes 1 e.index, beBytes 1 e.kind.code, beBytes 2 e.value1.toNat,
   beBytes 2 e.value2.toNat, beBytes 1 e.ref.code].flatten

/-- A channel of a frame slot: value and marks. -/
def Reading.bytes (r : Reading) : List Byte :=
  beBytes 2 (word r.value).toNat ++ beBytes 1 (r.health.code + 4 * bit r.sat)

/-- A frame of a capture record. -/
def CapFrame.bytes (f : CapFrame) : List Byte := beBytes 4 f.number.toNat ++ f.slot.flatMap Reading.bytes

/-- A trigger entry's 12 bytes. -/
def TriggerEntry.bytes (t : TriggerEntry) : List Byte :=
  beBytes 1 t.source ++ beBytes 1 (bit t.frame.isSome + 2 * bit t.unset) ++ beBytes 4 (t.frame.getD 0).toNat ++
  beBytes 6 t.time.toNat

/-- A buffer header's 75 bytes; an empty header's descriptor is zeros. -/
def BufView.headerBytes (b : BufView) : List Byte :=
  (match b.desc with | none => List.replicate 15 0 | some d => encodeCapture d) ++ beBytes 1 b.triggers.length ++
  ((b.triggers.flatMap TriggerEntry.bytes) ++ List.replicate 48 0).take 48 ++ beBytes 2 b.further ++
  beBytes 4 b.first.toNat ++ beBytes 2 b.actualPre ++ beBytes 2 b.actualPost ++ beBytes 1 b.cause.code

/-- The bytes of a reply payload, where the manual lays them out (log 23). -/
def Payload.bytes : Payload → Option (List Byte)
  | .empty => some []
  | .offset n => some (beBytes 1 n)
  | .setting k i r => some (k :: i :: r)
  | .events es => some (beBytes 1 es.length ++ es.flatMap Event.bytes)
  | .frames b first fs =>
    some (beBytes 1 b.code ++ beBytes 2 first ++ beBytes 1 fs.length ++ fs.flatMap CapFrame.bytes)
  | _ => none

/-- A control frame: start, length, kind, tag, status, payload, CRC-16 (R194). -/
def controlFrame (kind tag status : Byte) (payload : List Byte) : List Byte :=
  let body := beBytes 2 (payload.length + 3) ++ [kind, tag, status] ++ payload
  [0xA5] ++ body ++ beBytes 2 (crc16 body).toNat

/-- A reply as it is sent (R199), where its payload is laid out. -/
def Reply.frame (r : Reply) : Option (List Byte) :=
  r.payload.bytes.map (controlFrame r.kind r.tag (BitVec.ofNat 8 r.status.code))

end Sys2Proof.Machine
end

