-- ==== Sys2Proof/Machine/Ops.lean ====
section
/-! DEFINITION. The operations every block shares: access to the records, time and the timers that run on it (R155),
appending an event (R172, R173), handing a trigger to the capture store (R186), and the intertrip_out flag (R50). -/
namespace Sys2Proof.Machine

open Sys2Proof

-- ===================================================================== indices

/-- The six feeders, in feeder order. -/
def feeders6 : List (Fin 6) := [0, 1, 2, 3, 4, 5]

/-- The two rectifier groups. -/
def groups2 : List (Fin 2) := [0, 1]

/-- The four partner entries, in ascending order. -/
def partners4 : List (Fin 4) := [0, 1, 2, 3]

/-- The seventeen channels, in channel-number order. -/
def channels17 : List (Fin 17) := [0, 1, 2, 3, 4, 5, 6, 7, 8, 9, 10, 11, 12, 13, 14, 15, 16]

/-- Both ports. -/
def ports2 : List Port := [.up, .dn]

/-- Channel numbers (section 1.2). -/
def chUB : Fin 17 := 0
def chUR : Fin 17 := 1
def chIG (g : Fin 2) : Fin 17 := ⟨g.val + 2, by omega⟩
def chIF (k : Fin 6) : Fin 17 := ⟨k.val + 4, by omega⟩
def chUL (k : Fin 6) : Fin 17 := ⟨k.val + 10, by omega⟩
def chIFE : Fin 17 := 16

/-- A function on every component, in a form the kernel evaluates. -/
def vmap {α β : Type} {n : Nat} (f : α → β) (v : Vector α n) : Vector β n := ⟨⟨v.toList.map f⟩, by simp⟩

/-- The components that satisfy a test, counted. -/
def vcount {α : Type} {n : Nat} (p : α → Bool) (v : Vector α n) : Nat := (v.toList.filter p).length

/-- Any component satisfies a test. -/
def vany {α : Type} {n : Nat} (p : α → Bool) (v : Vector α n) : Bool := v.toList.any p

-- ===================================================================== records by index

/-- The live settings records. -/
def State.cfg (s : State) : Settings := s.sst.live

/-- The live STATION record. -/
def State.station (s : State) : StationCfg := s.sst.live.station

/-- The live FEEDER k general record. -/
def State.general (s : State) (k : Fin 6) : FeederCfg := s.sst.live.general[k]

/-- The reading of a channel in the latest frame record. -/
def State.reading (s : State) (c : Fin 17) : Reading := s.aqu.latest.readings[c]

/-- BFB_k as reported by its filter (R158). -/
def State.bfbClosed (s : State) (k : Fin 6) : Bool := s.bfb[k].reported

def State.setFeeder (k : Fin 6) (f : Feeder) (s : State) : State := { s with feeder := s.feeder.set k f }
def State.setDisc (k : Fin 6) (d : Disc) (s : State) : State := { s with disc := s.disc.set k d }
def State.setSec (k : Fin 6) (c : Section) (s : State) : State := { s with sec := s.sec.set k c }
def State.setLink (j : Fin 4) (l : LinkRec) (s : State) : State := { s with link := s.link.set j l }
def State.setGroupRec (g : Fin 2) (r : GroupRec) (s : State) : State := { s with group := s.group.set g r }
def State.setSyncRec (g : Fin 2) (r : SyncRec) (s : State) : State := { s with sync := s.sync.set g r }
def State.setTerm (t : Fin 16) (r : Terminal) (s : State) : State := { s with term := s.term.set t r }
def State.setBfb (k : Fin 6) (b : Bfb) (s : State) : State := { s with bfb := s.bfb.set k b }
def State.setSts (c : Sts) (s : State) : State := { s with sts := c }

/-- The record of a port. -/
def State.port (s : State) : Port → PortRec
  | .up => s.upPort
  | .dn => s.dnPort

/-- Replaces the record of a port. -/
def State.setPort (p : Port) (r : PortRec) (s : State) : State :=
  match p with
  | .up => { s with upPort := r }
  | .dn => { s with dnPort := r }

/-- The record of a capture buffer. -/
def Cap.buf (c : Cap) : BufId → CapBuf
  | .x => c.x
  | .y => c.y

/-- Replaces a capture buffer. -/
def Cap.setBuf (c : Cap) (b : BufId) (r : CapBuf) : Cap :=
  match b with
  | .x => { c with x := r }
  | .y => { c with y := r }

-- ===================================================================== time (R155)

/-- A running timer after n more of its units: it stands at 0 until its expiry is taken (log 1). -/
def runDown (n : Nat) (t : Option Nat) : Option Nat := t.map (· - n)

/-- A running timer has run out: its expiry can be taken (log 1). -/
def expired (t : Option Nat) : Bool := t == some 0

/-- A port's elapsed-time counts after ms more milliseconds (R91, R107): the silence time grows up to 20 ms. -/
def PortRec.run (ms : Nat) (p : PortRec) : PortRec :=
  { p with silence := min 20 (p.silence + ms), testLeft := runDown ms p.testLeft }

/-- The crossing timer of a sync after us more microseconds of its time base (R113). -/
def SyncRec.run (us : Nat) (r : SyncRec) : SyncRec := { r with crossTimer := runDown us r.crossTimer }

/-- Every elapsed-time timer of the part after ms more milliseconds (R60, R101, R125, R149, R152). -/
def State.runTimers (ms : Nat) (s : State) : State :=
  { s with
    feeder := vmap (fun f => { f with timer := runDown ms f.timer }) s.feeder
    link := vmap (fun l => { l with timeout := runDown ms l.timeout }) s.link
    upPort := s.upPort.run ms
    dnPort := s.dnPort.run ms
    group := vmap (fun g => { g with delay := runDown ms g.delay }) s.group
    sts := { s.sts with supTimer := runDown ms s.sts.supTimer, hold := runDown ms s.sts.hold } }

/-- us more microseconds of the time base: the crossing timers run (R113), and station time and elapsed time count whole
milliseconds, modulo 2^48. -/
def State.advance (us : Nat) (s : State) : State :=
  let t := s.subUs + us
  let ms := t / 1000
  let s := { s with
    subUs := t % 1000
    elapsed := s.elapsed + BitVec.ofNat 48 ms
    stationTime := s.stationTime + BitVec.ofNat 48 ms
    sync := vmap (SyncRec.run us) s.sync }
  if ms = 0 then s else s.runTimers ms

/-- Milliseconds of elapsed time since a moment, modulo 2^48. -/
def State.since (s : State) (t : Time) : Nat := (s.elapsed - t).toNat

/-- The ages in whole seconds of a history's entries. -/
def State.ages (s : State) (h : List Time) : List Nat := h.map fun t => s.since t / 1000

-- ===================================================================== events (R172, R173)

/-- The mark of lost entries on the oldest entry left. -/
def markOldest : List Event → List Event
  | [] => []
  | e :: rest => { e with overflow := true } :: rest

/-- The ring: at most 256 entries; an append to a full queue loses the oldest and marks its successor (R173). -/
def pushEvent (q : List Event) (e : Event) : List Event :=
  if q.length < 256 then q ++ [e] else markOldest (q.drop (q.length - 255)) ++ [e]

/-- Appends an event, stamped with station time, its UNSET mark and the quarter of the millisecond (R172). -/
def State.log (block : Block) (index : Nat) (kind : EventKind) (v1 v2 : Word16) (ref : CapRef) (s : State) : State :=
  { s with
    events := pushEvent s.events
      { time := s.stationTime, sub := s.subUs / 250, unset := s.unset, block := block, index := index, kind := kind,
        value1 := v1, value2 := v2, ref := ref, overflow := false } }

/-- An event of feeder k's protection unit. -/
def State.logFeeder (k : Fin 6) (kind : EventKind) (v1 v2 : Word16) (s : State) : State :=
  s.log .fpu (k.val + 1) kind v1 v2 .none

/-- An event of the station supervisor. -/
def State.logSts (kind : EventKind) (v1 v2 : Word16) (s : State) : State := s.log .sts 0 kind v1 v2 .none

-- ===================================================================== capture triggers (R186)

/-- Trigger sources as bits of a trigger set (section 11.3). -/
def srcPickup (k : Fin 6) : Nat := k.val
def srcTrip (k : Fin 6) : Nat := 6 + k.val
def srcGroupBlock : Nat := 12
def srcStation : Nat := 13
def srcManual : Nat := 14

/-- The reference of a buffer. -/
def BufId.ref : BufId → CapRef
  | .x => .x
  | .y => .y

/-- A buffer that watches or records. -/
def CapBuf.live (b : CapBuf) : Bool := b.state == .armed || b.state == .recording

/-- The one buffer that is ARMED or RECORDING (R184). -/
def Cap.live (c : Cap) : Option BufId := if c.x.live then some .x else if c.y.live then some .y else none

/-- The number of the latest frame stored into a buffer, or none. A frame taken with stop pending is not stored. -/
def State.lastStored (s : State) (b : CapBuf) : Option Word32 :=
  if b.frames.isEmpty then none else some (if b.stopFrame then s.aqu.latest.number - 1 else s.aqu.latest.number)

/-- The trigger list entry of a source. -/
def State.triggerEntry (s : State) (src : Nat) (b : CapBuf) : TriggerEntry :=
  { source := src, frame := s.lastStored b, time := s.stationTime, unset := s.unset }

/-- An ARMED buffer that takes its first trigger: it enters RECORDING. -/
def State.startRecord (s : State) (src : Nat) (b : CapBuf) : CapBuf :=
  { b with
    state := .recording
    actualPre := b.frames.length
    first := match s.lastStored b with
      | none => s.aqu.nextFrame
      | some n => n - BitVec.ofNat 32 (b.frames.length - 1)
    triggers := [s.triggerEntry src b] }

/-- A RECORDING buffer that takes a further trigger: four entries, then a count. That the count stays at 65535 is the
model's choice (log 39). -/
def State.joinRecord (s : State) (src : Nat) (b : CapBuf) : CapBuf :=
  if b.triggers.length < 4 then { b with triggers := b.triggers ++ [s.triggerEntry src b] }
  else { b with further := min 65535 (b.further + 1) }

/-- Hands a trigger to the capture store, which answers it with a capture reference (R175, R186). -/
def State.trigger (src : Nat) (s : State) : State × CapRef :=
  if !s.cap.active.triggers.getLsbD src then (s, .none)
  else
    match s.cap.live with
    | none => ({ s with cap := { s.cap with missed := min 65535 (s.cap.missed + 1) } }, .missed)
    | some b =>
      let r := s.cap.buf b
      let r := if r.state = .armed then s.startRecord src r else s.joinRecord src r
      ({ s with cap := s.cap.setBuf b r }, b.ref)

-- ===================================================================== sections (chapter 3)

/-- Intertrip causes as codes: OWN, STATION. -/
def itOwn : Nat := 0
def itStation : Nat := 1

/-- Sets intertrip_out; INTERTRIP_SENT is logged at a change from clear to set (R50). -/
def State.setItOut (k : Fin 6) (cause : Nat) (s : State) : State :=
  if s.sec[k].itOut then s
  else (s.setSec k { s.sec[k] with itOut := true }).log .sco (k.val + 1) .intertripSent (uword (k.val + 1)) (uword cause) .none

/-- Clears intertrip_out (R50, R51). -/
def State.clearItOut (k : Fin 6) (s : State) : State := s.setSec k { s.sec[k] with itOut := false }

/-- Records a line-test role (R53, R54). -/
def State.setRole (k : Fin 6) (r : Role) (s : State) : State := s.setSec k { s.sec[k] with role := r }

/-- The partner entry of a section, where the section counts as having one: named and enabled (R40, R53). -/
def State.partnerOf (s : State) (k : Fin 6) : Option (Fin 4) :=
  match s.cfg.sections[k].partner with
  | none => none
  | some j => if s.cfg.partners[j].enabled then some j else none

/-- The section has a partner whose link is UP. -/
def State.partnerUp (s : State) (k : Fin 6) : Bool :=
  match s.partnerOf k with
  | none => false
  | some j => s.link[j].up

/-- The section has a partner whose link is DOWN (R80). -/
def State.partnerDown (s : State) (k : Fin 6) : Bool :=
  match s.partnerOf k with
  | none => false
  | some j => !s.link[j].up

/-- The partner's station address is lower than this station's, which is read at START (R53, R79). -/
def State.partnerLower (s : State) (k : Fin 6) : Bool :=
  match s.cfg.sections[k].partner, s.sts.address with
  | some j, some a => decide (s.cfg.partners[j].address < a.toNat)
  | _, _ => false

/-- intertrip_in: either part is set (R52). -/
def Section.itIn (c : Section) : Bool := c.itTelegram || c.itTerminal

/-- The active setting group: A for DOUBLE, B for SINGLE (R47). -/
def Section.active (c : Section) : SetGroup := if c.double then .a else .b

/-- The role the section coordinator decides at the end of a dead time (R53). -/
def State.elect (s : State) (k : Fin 6) : Role :=
  if !s.partnerUp k then .leader
  else if s.sec[k].summary = .testing then .follower
  else if s.sec[k].summary = .open ∧ s.sec[k].porigin = .own ∧ s.partnerLower k then .follower
  else .leader

end Sys2Proof.Machine
end

