-- ==== Sys2Proof/Machine/Flags.lean ====
section
/-! DEFINITION. The lines and conditions the part derives from its records: output lines (R59, R116, R145, R162..R164),
ATTN (R177), the alarm condition (R163), the counts the RCU hands over (R112), and the tests several rules share. -/
namespace Sys2Proof.Machine

open Sys2Proof

-- ===================================================================== feeder lines (R59, R145)

/-- The clock supervisor is in FAIL, and the backup logic drives the lines (R145). -/
def State.inClockFail (s : State) : Bool := s.aqu.clock == .fail

/-- CLOSE_k. -/
def State.closeLine (s : State) (k : Fin 6) : Bool := !s.inClockFail && s.feeder[k].state == .closing

/-- TRIP_k as the feeder's record gives it. -/
def State.tripRecord (s : State) (k : Fin 6) : Bool :=
  s.feeder[k].state == .opening ||
  (s.feeder[k].state == .lockedOut && s.feeder[k].lockCause == .bf && s.bfbClosed k)

/-- TRIP_k: in FAIL asserted to every breaker that reads closed. -/
def State.tripLine (s : State) (k : Fin 6) : Bool := if s.inClockFail then s.bfbClosed k else s.tripRecord k

/-- LTC_k: asserted in SETTLE and WINDOW. -/
def State.ltcLine (s : State) (k : Fin 6) : Bool :=
  !s.inClockFail && s.feeder[k].state == .lineTest &&
  (s.feeder[k].phase == some .settle || s.feeder[k].phase == some .window)

/-- The discriminator is active while its feeder is in CLOSING or CLOSED (R18). -/
def FState.active : FState → Bool
  | .closing => true | .closed => true
  | .open => false | .opening => false | .deadTime => false | .lineTest => false | .waitPartner => false
  | .lockedOut => false | .blocked => false

/-- The line counts as live (R73). -/
def State.lineLive (s : State) (k : Fin 6) : Bool := s.feeder[k].liveRun == 400 && s.sec[k].summary == .closed

/-- The effective limit of the attempt decision (R70, R153). -/
def State.effectiveLimit (s : State) (k : Fin 6) : Nat :=
  if s.sts.present then (s.general k).nAr else min (s.general k).nAr 1

/-- ULk is FAILED. -/
def State.ulFailed (s : State) (k : Fin 6) : Bool := s.aqu.channels[chUL k].health == .failed

/-- IFk is FAILED. -/
def State.ifFailed (s : State) (k : Fin 6) : Bool := s.aqu.channels[chIF k].health == .failed

-- ===================================================================== rectifier

/-- STARTING or RUNNING. -/
def GState.fires : GState → Bool
  | .starting => true | .running => true | .off => false | .blocked => false | .locked => false | .disabled => false

/-- OFF, STARTING, RUNNING or BLOCKED (R112). -/
def GState.available : GState → Bool
  | .off => true | .starting => true | .running => true | .blocked => true | .locked => false | .disabled => false

/-- The count of available groups (R112). -/
def State.availableGroups (s : State) : Nat := vcount (fun g => g.state.available) s.group

/-- The count of groups in RUNNING, the groups running of every STATUS telegram (R112). -/
def State.runningGroups (s : State) : Nat := vcount (fun g => g.state == .running) s.group

/-- The station is NORMAL or REDUCED. -/
def Mode.feeds : Mode → Bool
  | .normal => true | .reduced => true | .start => false | .standby => false | .safe => false

/-- The three conditions of a firing pulse (R116). -/
def State.firingPermitted (s : State) (g : Fin 2) : Bool :=
  s.group[g].state.fires && s.sync[g].locked && s.sts.mode.feeds

/-- The firing output of a group that is asserted; the backup logic holds all released in FAIL (R145). -/
def State.firingOutput (s : State) (g : Fin 2) : Option (Fin 6) := if s.inClockFail then none else s.group[g].pulse

/-- A present cause of a group (R124). -/
def State.anyCause (s : State) (g : Fin 2) : Bool :=
  s.group[g].overcurrent || s.group[g].temp || s.group[g].channel || !s.sync[g].locked

/-- The present causes of a group (R112). -/
def State.presentCauses (s : State) (g : Fin 2) : List GCause :=
  (if s.group[g].overcurrent then [.overcurrent] else []) ++ (if s.group[g].temp then [.temp] else []) ++
  (if s.sync[g].locked then [] else [.syncLost]) ++ (if s.group[g].channel then [.channel] else [])

-- ===================================================================== station

/-- The SAFE causes present (R143). -/
def State.safeCauses (s : State) : SafeCauses :=
  { clockFail := s.sts.clockFail, channelUb := s.sts.channelUb, channelIfe := s.sts.channelIfe,
    frameFault := s.sts.frameFault, breakerFail := s.sts.breakerFail }

/-- A SAFE cause is present. -/
def SafeCauses.any (c : SafeCauses) : Bool :=
  c.clockFail || c.channelUb || c.channelIfe || c.frameFault || vany (fun b => b) c.breakerFail

/-- The station address read from the straps is not valid (R138). -/
def addressInvalid : Option Byte → Bool
  | none => false
  | some a => a.toNat == 0 || 250 < a.toNat

/-- A terminal is assigned RPL_OUT. -/
def State.rplFitted (s : State) : Bool := vany (fun t => t.cfg.fn == .rplOut) s.term

/-- The reading of the terminal assigned RPL_FB, or not fitted. -/
def State.rplFeedback (s : State) : Option Bool := (s.term.toList.find? (fun t => t.cfg.fn == .rplFb)).map (·.proc)

/-- The frame fault element is suspended: the contactor is commanded closed or reads closed (R147). The backup logic
commands it through the terminal assigned RPL_OUT, where one is (R145). -/
def State.suspended (s : State) : Bool :=
  s.sts.contact != .released || (s.inClockFail && s.rplFitted) || s.rplFeedback == some true

/-- The magnitude of the rail potential in the latest record. -/
def State.railMagnitude (s : State) : Nat := (s.reading chUR).value.natAbs

-- ===================================================================== alarm, terminals, ATTN

/-- The alarm condition (R163). -/
def State.alarm (s : State) : Bool :=
  s.sts.mode == .safe || vany (fun f => f.state == .lockedOut) s.feeder || vany (fun g => g.state == .locked) s.group

/-- The output level of an output terminal (R162, R145). -/
def State.outLevel (s : State) (t : Fin 16) : Bool :=
  match s.term[t].cfg.fn with
  | .rplOut => s.inClockFail || s.sts.contact != .released
  | .itOut k => s.sec[k].itOut
  | .alarmOut => s.alarm
  | .none => s.term[t].out
  | .tempTrip _ => s.term[t].out
  | .localReset _ => s.term[t].out
  | .rplFb => s.term[t].out
  | .itIn _ => s.term[t].out

/-- What a terminal drives on its line: ON or OFF, or nothing (R162, R164, R168). An OUT_OPEN_DRAIN terminal conducts
while ACTIVE and leaves the line open while INACTIVE. -/
def State.driven (s : State) (t : Fin 16) : Option Bool :=
  match s.term[t].cfg.mode with
  | .inPlain => none
  | .inFiltered => none
  | .inFilteredInverted => none
  | .outOpenDrain => if s.outLevel t then some true else none
  | .outPushPull => some (s.outLevel t)
  | .through =>
    match s.term[t].cfg.source with
    | none => none
    | some o => some (s.lines.getLsbD o.val)

/-- The attention line (R177). -/
def State.attn (s : State) : Bool :=
  s.sts.complete &&
  ((!s.events.isEmpty && s.station.eventAttention) || s.cap.x.state == .full || s.cap.y.state == .full ||
   s.sts.mode == .safe)

end Sys2Proof.Machine
end

