-- ==== Sys2Proof/Machine/Discriminator.lean ====
section
/-! DEFINITION. Chapter 2: what the discriminator of a feeder does on one frame record (R21..R30, R34..R37), and what
the feeder's state changes do to it (R31..R33). -/
namespace Sys2Proof.Machine

open Sys2Proof

/-- A trip handed to the feeder sequence (R30). -/
structure Trip where
  element : Element
  sotf : Bool
  quantity : Int
  frame : Word32
deriving DecidableEq, Repr

/-- The filter (R23): a quarter of the difference, truncated toward zero. -/
def filterStep (prev i : Int) : Int := prev + (i - prev).tdiv 4

/-- The filtered value four counted frames back, where the history is full (R24). -/
def Disc.oldest (d : Disc) : Option Int := d.history[3]?

/-- The slope of a new filtered value against the history (R24). -/
def Disc.slopeOf (d : Disc) (f : Int) : Int :=
  match d.oldest with
  | some o => f - o
  | none => 0

/-- Takes up the group, filters, forms the slope and advances the history (R20, R23, R24, R35). -/
def Disc.take (d : Disc) (g : SetGroup) (i : Int) (n : Word32) : Disc :=
  let f := filterStep d.filtered i
  { d with groupInUse := g, frame := n, filtered := f, slope := d.slopeOf f, history := (f :: d.history).take 4 }

/-- Rise tracking on an active counted frame (R25, R26). before is the record before the frame, whose oldest history
value is If[n-4]. -/
def Disc.track (d before : Disc) (c : GroupCfg) : Disc :=
  if !d.rising then
    if (c.didtStart : Int) ≤ d.slope then
      let b := before.oldest.getD d.filtered
      { d with rising := true, base := b, elapsed := 0, rise := some (d.filtered - b) }
    else d
  else
    let d := { d with elapsed := min 65535 (d.elapsed + 1) }
    if d.slope < (c.didtHold : Int) then { d with rising := false, rise := none }
    else { d with rise := some (d.filtered - d.base) }

/-- The drop-off level of the definite-time element (R29). -/
def dropOff (c : GroupCfg) : Int := (c.iDt : Int) - ((c.iDt / 20 : Nat) : Int)

/-- The IMAX run and the definite-time counter on an active counted frame (R28, R29). -/
def Disc.counts (d : Disc) (c : GroupCfg) (i : Int) : Disc :=
  { d with
    imaxRun := if (c.imax : Int) ≤ i then min 2 (d.imaxRun + 1) else 0
    dtCount :=
      if (c.iDt : Int) ≤ d.filtered then min 240000 (d.dtCount + 1)
      else if d.filtered < dropOff c then 0 else d.dtCount }

/-- The DELTA_I element (R27); held is the close-onto-fault window open or the feeder in CLOSING (R34). -/
def Disc.deltaI (d : Disc) (c : GroupCfg) (held : Bool) : Bool :=
  d.rising && decide ((c.diSet : Int) ≤ d.rise.getD 0) && decide (4 * c.diTime ≤ d.elapsed) && !held

/-- The first true element in the order IMAX, DELTA_I, DEF_TIME, with its quantity and the number of the record
(R27..R30). -/
def Disc.select (d : Disc) (c : GroupCfg) (i : Int) (held : Bool) : Option Trip :=
  if d.imaxRun = 2 then some { element := .imax, sotf := held, quantity := i, frame := d.frame }
  else if d.deltaI c held then some { element := .deltaI, sotf := held, quantity := d.rise.getD 0, frame := d.frame }
  else if 4 * c.tDt ≤ d.dtCount then some { element := .defTime, sotf := held, quantity := d.filtered, frame := d.frame }
  else none

/-- The window counts down on every counted frame (R33); at 0 SOTF_WINDOW_END closes it. -/
def Disc.countWindow (d : Disc) : Disc := { d with window := d.window - 1 }

/-- No rise and zero counts (R22, R31). -/
def Disc.quiet (d : Disc) : Disc := { d with rising := false, rise := none, imaxRun := 0, dtCount := 0 }

/-- A counted frame (R21): the record after it, whether PICKUP is raised, and the trip handed. -/
def Disc.frameStep (d : Disc) (st : FState) (g : SetGroup) (c : GroupCfg) (r : Reading) (n : Word32) :
    Disc × Bool × Option Trip :=
  let t := d.take g r.value n
  if r.health = .failed then (t.quiet.countWindow, false, none)
  else if !st.active then
    ({ t with imaxRun := 0, dtCount := 0 }.countWindow, false, none)
  else
    let held := d.windowOpen || st == .closing
    let u := (t.track d c).counts c r.value
    let pickup := !d.rising && u.rising
    let trip := if d.tripGiven then none else u.select c r.value held
    ({ u with tripGiven := u.tripGiven || trip.isSome }.countWindow, pickup, trip)

/-- The feeder leaves CLOSING or CLOSED (R31). -/
def Disc.leave (d : Disc) : Disc := { d.quiet with window := 0, windowOpen := false }

/-- The feeder enters CLOSING, or CLOSED from another state (R32). -/
def Disc.enter (d : Disc) : Disc := { d.quiet with tripGiven := false }

/-- The feeder enters CLOSED from CLOSING: the close-onto-fault window opens (R33). -/
def Disc.openWindow (d : Disc) : Disc := { d with window := 2000, windowOpen := true }

/-- What a change of feeder state does to the discriminator (R31..R33). -/
def Disc.onMove (d : Disc) (old new : FState) : Disc :=
  if old = .closing ∧ new = .closed then d.openWindow
  else if old.active && !new.active then d.leave
  else if !old.active && new.active then d.enter
  else d

end Sys2Proof.Machine
end

