-- ==== Sys2Proof/Machine/Feeder.lean ====
section
/-! DEFINITION. Chapter 4: the feeder sequence. Each move of a feeder goes through State.moveFeeder, which also moves
the discriminator (R31..R33) and the line-test role (R54). -/
namespace Sys2Proof.Machine

open Sys2Proof

-- ===================================================================== moves

/-- The role that goes with a feeder state (R54). -/
def FState.role : FState → Role
  | .lineTest => .leader
  | .waitPartner => .follower
  | .open => .none | .closing => .none | .closed => .none | .opening => .none | .deadTime => .none
  | .lockedOut => .none | .blocked => .none

/-- A close sequence begun by Close Feeder can be in progress in these states only (log 14). -/
def FState.keepsManual : FState → Bool
  | .closing => true | .lineTest => true | .waitPartner => true
  | .open => false | .closed => false | .opening => false | .deadTime => false | .lockedOut => false
  | .blocked => false

/-- The record of a feeder that takes a state, its timer loaded or stopped (R58, R60). The destination stands only in
OPENING and the test phase only in LINE_TEST; the block cause stands in BLOCKED and on the way to it (log 13). -/
def Feeder.take (f : Feeder) (st : FState) (timer : Option Nat) : Feeder :=
  { f with
    state := st
    timer := timer
    phase := if st = .lineTest then f.phase else none
    dest := if st = .opening then f.dest else none
    manual := f.manual && st.keepsManual
    blockCause := if st = .blocked ∨ (st = .opening ∧ f.dest = some .blocked) then f.blockCause else .none }

/-- Moves feeder k to a state with the record f. -/
def State.moveFeeder (k : Fin 6) (f : Feeder) (st : FState) (timer : Option Nat) (s : State) : State :=
  let old := s.feeder[k].state
  let s := s.setDisc k (s.disc[k].onMove old st)
  let s := s.setRole k st.role
  s.setFeeder k (f.take st timer)

/-- The feeder current of the latest frame record, the trip quantity of every trip but the discriminator's (R63). -/
def State.currentValue (s : State) (k : Fin 6) : Word16 := word (s.reading (chIF k)).value

/-- Enters OPENING (R63). lc and bc are recorded with a destination LOCKED_OUT or BLOCKED; none keeps what stands. -/
def State.openBreaker (k : Fin 6) (o : Origin) (e : Element) (sotf : Bool) (d : Dest) (lc : LockCause) (bc : BlockCause)
    (qty : Word16) (s : State) : State :=
  let f := s.feeder[k]
  let f := { f with
    origin := o, element := e, sotf := sotf, dest := some d, tripAt := s.elapsed
    lockCause := if lc = .none then f.lockCause else lc
    blockCause := if bc = .none then f.blockCause else bc }
  let s := s.moveFeeder k f .opening (some (s.general k).tOpenMax)
  let r := s.trigger (srcTrip k)
  r.1.log .fpu (k.val + 1) .tripFeeder (pair o.code e.code) qty r.2

/-- Enters LOCKED_OUT (R81). -/
def State.lockOut (k : Fin 6) (c : LockCause) (s : State) : State :=
  let s := s.moveFeeder k { s.feeder[k] with lockCause := c } .lockedOut none
  s.logFeeder k .lockout (uword c.code) (uword s.feeder[k].attempt)

/-- Enters OPEN. -/
def State.enterOpen (k : Fin 6) (s : State) : State := s.moveFeeder k s.feeder[k] .open none

/-- Enters BLOCKED with a cause. -/
def State.enterBlocked (k : Fin 6) (c : BlockCause) (s : State) : State :=
  s.moveFeeder k { s.feeder[k] with blockCause := c } .blocked none

/-- Enters CLOSING (R61). -/
def State.enterClosing (k : Fin 6) (p : ClosePath) (s : State) : State :=
  s.moveFeeder k { s.feeder[k] with path := p } .closing (some (s.general k).tCloseMax)

/-- What every entry to CLOSED does to the sequence: origin NONE, element and SOTF mark clear, T_RECLAIM loaded
(R62). -/
def State.takeClosed (k : Fin 6) (s : State) : State :=
  s.moveFeeder k { s.feeder[k] with origin := .none, element := .none, sotf := false } .closed
    (some ((s.general k).tReclaim * 1000))

/-- Enters CLOSED: with the section's intertrip_out cleared (R50, R62). -/
def State.enterClosed (k : Fin 6) (s : State) : State := (s.takeClosed k).clearItOut k

/-- BFB_k asserts in CLOSING: the close is complete (R62). -/
def State.closeDone (k : Fin 6) (s : State) : State :=
  let f := s.feeder[k]
  let s := if f.manual then s.setFeeder k { f with attempt := 0 } else s
  let s := s.enterClosed k
  s.logFeeder k .breakerClosed (uword (bit f.manual)) (uword f.path.code)

/-- The lockout cause that BREAKER_CLOSED_LOCAL carries: the one kept from LOCKED_OUT, else none (R67, log 17). -/
def Feeder.keptCause (f : Feeder) : LockCause := if f.state = .lockedOut then f.lockCause else .none

/-- Logs an uncommanded close of a feeder whose record was f (R67). -/
def State.logLocalClose (k : Fin 6) (f : Feeder) (s : State) : State :=
  s.logFeeder k .breakerClosedLocal (uword f.state.code) (uword f.keptCause.code)

/-- Adopts a breaker found closed on an uncommanded close (R67). -/
def State.adoptLocal (k : Fin 6) (s : State) : State :=
  let f := s.feeder[k]
  (s.enterClosed k).logLocalClose k f

-- ===================================================================== autoreclose (R70)

/-- The dead time of a counter (R70). -/
def FeederCfg.deadTime (c : FeederCfg) : Nat → Nat
  | 1 => c.dt1
  | 2 => c.dt2
  | _ => c.dt3

/-- The attempt decision, after an own trip or after a failed automatic test (R70). -/
def State.decide (k : Fin 6) (failedTest : Bool) (s : State) : State :=
  let f := s.feeder[k]
  if !failedTest && f.element == .imax && !(s.general k).arOnImax then s.lockOut k .noArImax
  else if f.attempt < s.effectiveLimit k then
    let n := f.attempt + 1
    let dt := (s.general k).deadTime n
    let s := s.moveFeeder k { f with attempt := n } .deadTime (some dt)
    s.logFeeder k .recloseAttempt (uword n) (uword dt)
  else s.lockOut k (if failedTest then .ltFailed else .arExhausted)

-- ===================================================================== line test (R75..R79)

/-- LTC_k is asserted: phase SETTLE or WINDOW. -/
def Feeder.testing (f : Feeder) : Bool := f.state == .lineTest && (f.phase == some .settle || f.phase == some .window)

/-- LTC_k is released at the end of a test: the live run is set to 0 (R73). -/
def Feeder.release (f : Feeder) : Feeder := if f.testing then { f with liveRun := 0 } else f

/-- Writes the last test record and logs LINE_TEST_RESULT (R76). -/
def State.testResult (k : Fin 6) (o : TestOutcome) (rline : Nat) (v : Option TestValues) (s : State) : State :=
  let f := s.feeder[k].release
  let s := s.setFeeder k { f with lastTest := some { outcome := o, rline := rline, values := v } }
  s.logFeeder k .lineTestResult (uword rline) (uword o.code)

/-- Ends a test CANCELLED, where one stands (R79). -/
def State.cancelTest (k : Fin 6) (s : State) : State :=
  if s.feeder[k].state = .lineTest then s.testResult k .cancelled 0 none else s

/-- An INVALID test (R77, R78). -/
def State.testInvalid (k : Fin 6) (rline : Nat) (v : Option TestValues) (s : State) : State :=
  let s := s.testResult k .invalid rline v
  let f := { s.feeder[k] with liveRun := 0 }
  if f.manual then
    let s := s.setFeeder k f
    if s.bfbClosed k then s.adoptLocal k else s.enterOpen k
  else
    let f := { f with invalid := min 3 (f.invalid + 1) }
    let s := s.setFeeder k f
    if s.bfbClosed k then s.adoptLocal k
    else if f.invalid < 3 then s.moveFeeder k { f with phase := some .retry } .lineTest (some 1000)
    else s.lockOut k .ltInvalid

/-- Enters LINE_TEST and makes the two checks that end a test at once (R75). -/
def State.beginTest (k : Fin 6) (retry : Bool) (s : State) : State :=
  let f := s.feeder[k]
  let f := { f with invalid := if retry then f.invalid else 0 }
  if s.bfbClosed k || f.lost || s.ulFailed k then
    (s.moveFeeder k { f with phase := some .retry } .lineTest none).testInvalid k 0 none
  else s.moveFeeder k { f with phase := some .settle } .lineTest (some (s.general k).tLtSettle)

/-- Enters WAIT_PARTNER; with a partner whose link is DOWN it leaves at once for a line test as leader (R80). -/
def State.enterWait (k : Fin 6) (s : State) : State :=
  let s := s.moveFeeder k s.feeder[k] .waitPartner (some ((s.general k).tWait * 1000))
  if s.partnerDown k then s.beginTest k false else s

/-- The condition on which a line test is abandoned (R79). -/
def State.mustAbandon (s : State) (k : Fin 6) : Bool :=
  s.feeder[k].state == .lineTest && s.sec[k].summary == .testing && s.partnerLower k

/-- Abandons a line test where the condition stands (R79). -/
def State.abandonTest (k : Fin 6) (s : State) : State :=
  if s.mustAbandon k then (s.testResult k .abandoned 0 none).enterWait k else s

/-- Enters LINE_TEST, with the abandonment check at the entry (R75, R79, log 16). -/
def State.enterLineTest (k : Fin 6) (retry : Bool) (s : State) : State := (s.beginTest k retry).abandonTest k

/-- Rline in milliohms (R76). -/
def rlineOf (rt ul ub : Nat) : Nat := if ub ≤ ul then 65535 else min 65535 ((rt * ul) / (ub - ul))

/-- The window count reaches 64: the result of the line test (R76, R77). -/
def State.testWindowDone (k : Fin 6) (s : State) : State :=
  let f := s.feeder[k]
  let ul := f.sumUl / 64
  let ub := f.sumUb / 64
  let rl := rlineOf (s.general k).rt ul ub
  let v : TestValues := { ul := ul, ub := ub, frame := s.aqu.latest.number }
  if ub < s.station.ubLtMin then s.testInvalid k rl (some v)
  else if (s.general k).rltMin ≤ rl then
    let s := s.testResult k .pass rl (some v)
    (s.setFeeder k { s.feeder[k] with invalid := 0 }).enterClosing k .tested
  else
    let s := s.testResult k .fail rl (some v)
    let s := s.setFeeder k { s.feeder[k] with invalid := 0 }
    if f.manual then s.enterOpen k else s.decide k true

/-- The condition of LINE_TEST_WINDOW_COMPLETE. -/
def State.testWindowFull (s : State) (k : Fin 6) : Bool :=
  s.feeder[k].state == .lineTest && s.feeder[k].phase == some .window && s.feeder[k].count == 64

-- ===================================================================== the opening (R64, R65)

/-- The opening is complete: BREAKER_OPENED, then the destination (R64). -/
def State.openingDone (k : Fin 6) (ms : Nat) (s : State) : State :=
  let f := s.feeder[k]
  let s := s.logFeeder k .breakerOpened (uword f.origin.code) (uword ms)
  match f.dest with
  | some .decide => s.decide k false
  | some .waitPartner => s.enterWait k
  | some .blocked => s.enterBlocked k f.blockCause
  | some .lockedOut => s.lockOut k f.lockCause
  | some .open => s.enterOpen k
  | none => s.enterOpen k

/-- Milliseconds since the assertion of TRIP_k, up to 65535 (R64). -/
def State.sinceTrip (s : State) (k : Fin 6) : Nat := min 65535 (s.since s.feeder[k].tripAt)

/-- T_OPEN_MAX expires with the breaker closed: the sequence's part of a breaker failure (R65). -/
def State.breakerFailed (k : Fin 6) (s : State) : State :=
  let s := s.logFeeder k .breakerFail (uword s.feeder[k].origin.code) (uword (s.general k).tOpenMax)
  s.lockOut k .bf

-- ===================================================================== trips (R66, R68, R69)

/-- An own-protection trip of the discriminator (R68). -/
def State.ownTrip (k : Fin 6) (t : Trip) (s : State) : State :=
  if s.feeder[k].state.active then
    let s := s.setItOut k itOwn
    if t.sotf then s.openBreaker k .own t.element true .lockedOut .sotf .none (word t.quantity)
    else s.openBreaker k .own t.element false .decide .none .none (word t.quantity)
  else s

/-- BFB_k releases in CLOSED: an own trip with element EXTERNAL (R66). No discriminator hands its trip quantity, so that
TRIP_FEEDER carries 0 (R174, log 8). -/
def State.externalTrip (k : Fin 6) (s : State) : State :=
  (s.openBreaker k .own .external false .decide .none .none 0).setItOut k itOwn

/-- An intertrip handed by the section coordinator (R69). -/
def State.intertrip (k : Fin 6) (s : State) : State :=
  if s.feeder[k].state.active then
    s.openBreaker k .intertrip .none false .waitPartner .none .none (s.currentValue k)
  else s

-- ===================================================================== breaker feedback (R61, R64, R66, R67)

/-- An uncommanded close while the station is SAFE (R67). -/
def State.safeClose (k : Fin 6) (s : State) : State :=
  let f := s.feeder[k]
  let s := s.logLocalClose k f
  if f.state = .lockedOut then s.openBreaker k .station .none false .lockedOut .none .none (s.currentValue k)
  else s.openBreaker k .station .none false .blocked .none .station (s.currentValue k)

/-- An uncommanded close of a BLOCKED feeder outside SAFE: it is opened again (R67). That it logs BREAKER_CLOSED_LOCAL, as
an adopted breaker does, and before TRIP_FEEDER, is the model's choice (log 36). -/
def State.blockedClose (k : Fin 6) (s : State) : State :=
  let f := s.feeder[k]
  (s.logLocalClose k f).openBreaker k .manual .none false .blocked .none .none (s.currentValue k)

/-- BFB_k asserts, by the state of the feeder (R61, R63, R67). In START the change is not acted on (R158). -/
def State.bfbAsserts (k : Fin 6) (s : State) : State :=
  if !s.sts.complete then s
  else
    match s.feeder[k].state with
    | .closing => s.closeDone k
    | .closed => s
    | .opening => s
    | .open => if s.sts.mode = .safe then s.safeClose k else s.adoptLocal k
    | .lockedOut => if s.sts.mode = .safe then s.safeClose k else s.adoptLocal k
    | .blocked => if s.sts.mode = .safe then s.safeClose k else s.blockedClose k
    | .deadTime => s.adoptLocal k
    | .waitPartner => s.adoptLocal k
    | .lineTest => s.testInvalid k 0 none

/-- BFB_k releases, by the state of the feeder (R64, R66). -/
def State.bfbReleases (k : Fin 6) (s : State) : State :=
  if !s.sts.complete then s
  else
    match s.feeder[k].state with
    | .closed => s.externalTrip k
    | .opening => s.openingDone k (s.sinceTrip k)
    | .lockedOut =>
      if s.feeder[k].lockCause = .bf then
        s.logFeeder k .breakerOpened (uword s.feeder[k].origin.code) (uword (s.sinceTrip k))
      else s
    | .open => s
    | .closing => s
    | .deadTime => s
    | .lineTest => s
    | .waitPartner => s
    | .blocked => s

-- ===================================================================== channel failures, station changes

/-- What START keeps until the adoption (R82, R89). -/
def State.keep (k : Fin 6) (x : Kept) (s : State) : State :=
  s.setFeeder k { s.feeder[k] with kept := s.feeder[k].kept ++ [x] }

/-- A failure of IFk, by the state of the feeder (R82). -/
def State.currentLost (k : Fin 6) (s : State) : State :=
  match s.feeder[k].state with
  | .closed => s.openBreaker k .channel .none false .lockedOut .channel .none (s.currentValue k)
  | .closing => s.openBreaker k .channel .none false .lockedOut .channel .none (s.currentValue k)
  | .opening =>
    s.setFeeder k { s.feeder[k] with dest := some .lockedOut, lockCause := .channel, blockCause := .none }
  | .open => s.lockOut k .channel
  | .deadTime => s.lockOut k .channel
  | .waitPartner => s.lockOut k .channel
  | .blocked => s.lockOut k .channel
  | .lineTest => (s.cancelTest k).lockOut k .channel
  | .lockedOut =>
    if s.feeder[k].lockCause = .bf then s else s.setFeeder k { s.feeder[k] with lockCause := .channel }

/-- A failure of IFk handed by the acquisition unit: kept through START (R82). -/
def State.currentFailed (k : Fin 6) (s : State) : State :=
  if s.sts.complete then s.currentLost k else s.keep k .currentFailed

/-- A failure of ULk (R82): a test in progress ends INVALID. In phase RETRY no test is in progress, which is the model's
reading: there the failure sets the mark alone (log 35). -/
def State.voltageLost (k : Fin 6) (s : State) : State :=
  let t := s.feeder[k].testing
  let s := s.setFeeder k { s.feeder[k] with lost := true, liveRun := 0 }
  if t then s.testInvalid k 0 none else s

/-- A failure of ULk handed by the acquisition unit: kept through START (R82, R89). -/
def State.voltageFailed (k : Fin 6) (s : State) : State :=
  if s.sts.complete then s.voltageLost k else s.keep k .voltageFailed

/-- The station trip, by the state of the feeder (R83). -/
def State.stationTripped (k : Fin 6) (s : State) : State :=
  match s.feeder[k].state with
  | .closed => s.openBreaker k .station .none false .blocked .none .station (s.currentValue k)
  | .closing => s.openBreaker k .station .none false .blocked .none .station (s.currentValue k)
  | .opening =>
    if s.feeder[k].dest = some .lockedOut then s
    else s.setFeeder k { s.feeder[k] with dest := some .blocked, blockCause := .station }
  | .open => s.enterBlocked k .station
  | .deadTime => s.enterBlocked k .station
  | .waitPartner => s.enterBlocked k .station
  | .lineTest => (s.cancelTest k).enterBlocked k .station
  | .blocked => s
  | .lockedOut => s

/-- The station trip handed at the entry to SAFE: kept through START (R83, R89). -/
def State.stationTrip (k : Fin 6) (s : State) : State :=
  if s.sts.complete then s.stationTripped k else s.keep k .stationTrip

/-- The SAFE exit (R83). That the destination of an opening changes where the breaker already reads released too is the
model's reading (log 42). -/
def State.safeExit (k : Fin 6) (s : State) : State :=
  let f := s.feeder[k]
  if f.state = .blocked ∧ f.blockCause = .station then s.enterOpen k
  else if f.state = .opening ∧ f.dest = some .blocked ∧ f.blockCause = .station then
    s.setFeeder k { f with dest := some .open, blockCause := .none }
  else s

/-- What START kept acts on the adopted feeder, in the order it was handed (R89). -/
def State.actKept (k : Fin 6) : List Kept → State → State
  | [], s => s
  | .currentFailed :: rest, s => actKept k rest (s.currentLost k)
  | .voltageFailed :: rest, s => actKept k rest (s.voltageLost k)
  | .stationTrip :: rest, s => actKept k rest (s.stationTripped k)

/-- The adoption at the end of START (R89). An adoption CLOSED clears intertrip_out as every entry to CLOSED does (R50,
R62); a station that ends START in SAFE then has it set again, since its telegrams carry it set (R139, log 12). -/
def State.adopt (k : Fin 6) (s : State) : State :=
  let kept := s.feeder[k].kept
  let s := s.setFeeder k { s.feeder[k] with kept := [] }
  let s := if s.bfbClosed k then s.enterClosed k else s.enterOpen k
  let s := s.actKept k kept
  if s.sts.mode = .safe then s.setItOut k itStation else s

-- ===================================================================== section handovers (R55, R79, R80)

/-- A change of partner summary handed to the feeder (R55): abandonment in LINE_TEST, LOCKED in WAIT_PARTNER. A
summary of CLOSED makes LIVE_LINE due where the live run is full. -/
def State.summaryChanged (k : Fin 6) (s : State) : State :=
  if s.feeder[k].state = .waitPartner ∧ s.sec[k].summary = .locked then
    if s.feeder[k].manual then s.enterOpen k else s.lockOut k .partnerLocked
  else s.abandonTest k

/-- The partner's link goes DOWN: a feeder in WAIT_PARTNER starts a line test as leader (R80, R103). -/
def State.linkLost (k : Fin 6) (s : State) : State :=
  if s.feeder[k].state = .waitPartner then s.enterLineTest k false else s

/-- The condition of LIVE_LINE (R73, R80). -/
def State.liveLineDue (s : State) (k : Fin 6) : Bool := s.feeder[k].state == .waitPartner && s.lineLive k

-- ===================================================================== on each frame record

/-- The live run on a frame record (R73). -/
def State.liveStep (k : Fin 6) (s : State) : State :=
  let f := s.feeder[k]
  let r := s.reading (chUL k)
  if r.health = .stale then s
  else
    s.setFeeder k { f with
      liveRun :=
        if r.health = .failed || f.lost then 0
        else if (s.station.ulive : Int) ≤ r.value then min 400 (f.liveRun + 1) else 0 }

/-- The test window on a frame record (R76). -/
def State.windowStep (k : Fin 6) (s : State) : State :=
  let f := s.feeder[k]
  let ul := s.reading (chUL k)
  let ub := s.reading chUB
  if f.state = .lineTest ∧ f.phase = some .window ∧ ul.health ≠ .stale ∧ ub.health ≠ .stale ∧ f.count < 64 then
    s.setFeeder k { f with
      sumUl := f.sumUl + ul.value.toNat, sumUb := f.sumUb + ub.value.toNat, count := f.count + 1 }
  else s

/-- The setting group record the discriminator uses: the one active for its section (R20, R35, R37). -/
def State.groupRecord (s : State) (k : Fin 6) : GroupCfg :=
  match s.sec[k].active with
  | .a => s.cfg.groupA[k]
  | .b => s.cfg.groupB[k]

/-- A feeder protection unit takes a frame record (R21, R25, R30, R73, R76). -/
def State.feederFrame (k : Fin 6) (s : State) : State :=
  let r := s.reading (chIF k)
  let s :=
    if r.health = .stale then s
    else
      let o := s.disc[k].frameStep s.feeder[k].state s.sec[k].active (s.groupRecord k) r s.aqu.latest.number
      let s := s.setDisc k o.1
      let s := if o.2.1 then (s.trigger (srcPickup k)).1 else s
      match o.2.2 with
      | some t => s.ownTrip k t
      | none => s
  (s.liveStep k).windowStep k

-- ===================================================================== sequence timers (R60)

/-- The sequence timer has run out in this state (R60, log 1): its expiry can be taken. -/
def State.timing (s : State) (k : Fin 6) (st : FState) : Bool := s.feeder[k].state == st && expired s.feeder[k].timer

/-- T_CLOSE_MAX expires with BFB_k released (R61). -/
def State.closeExpiry (k : Fin 6) (s : State) : State :=
  if s.timing k .closing && !s.bfbClosed k then s.lockOut k .closeFail else s

/-- The dead time expires (R72). -/
def State.deadExpiry (k : Fin 6) (s : State) : State :=
  if s.timing k .deadTime then
    if s.lineLive k then s.enterClosing k .live
    else if s.elect k = .follower then s.enterWait k
    else s.enterLineTest k false
  else s

/-- The reclaim time expires (R74). -/
def State.reclaimDone (k : Fin 6) (s : State) : State :=
  if s.timing k .closed then s.setFeeder k { s.feeder[k] with attempt := 0, timer := none } else s

/-- T_LT_SETTLE expires: phase WINDOW with zero sums (R75). -/
def State.settleDone (k : Fin 6) (s : State) : State :=
  if s.timing k .lineTest && s.feeder[k].phase == some .settle then
    s.setFeeder k { s.feeder[k] with phase := some .window, timer := none, sumUl := 0, sumUb := 0, count := 0 }
  else s

/-- The wait after an INVALID test expires (R78). -/
def State.retryDone (k : Fin 6) (s : State) : State :=
  if s.timing k .lineTest && s.feeder[k].phase == some .retry then s.enterLineTest k true else s

/-- T_WAIT expires (R80). -/
def State.waitDone (k : Fin 6) (s : State) : State :=
  if s.timing k .waitPartner then s.enterLineTest k false else s

/-- A live line in WAIT_PARTNER (R80). -/
def State.liveClose (k : Fin 6) (s : State) : State := if s.liveLineDue k then s.enterClosing k .live else s

-- ===================================================================== requests (R84..R87)

/-- An accepted Close Feeder (R84). -/
def State.closeAccepted (k : Fin 6) (s : State) : State :=
  let f := s.feeder[k]
  let s := s.setFeeder k { f with manual := true, lost := f.lost && s.ulFailed k }
  if s.lineLive k then s.enterClosing k .live
  else if (s.general k).manualLt then s.enterLineTest k false
  else s.enterClosing k .direct

/-- Close Feeder is taken in OPEN with the station in STANDBY, NORMAL or REDUCED (R84). -/
def State.mayClose (s : State) (k : Fin 6) : Bool :=
  s.feeder[k].state == .open && s.sts.complete &&
  (s.sts.mode == .standby || s.sts.mode == .normal || s.sts.mode == .reduced)

/-- Open Feeder, or none where it is refused (R85). -/
def State.openRequest (k : Fin 6) (s : State) : Option State :=
  if !s.sts.complete then none
  else
    match s.feeder[k].state with
    | .closed => some (s.openBreaker k .manual .none false .open .none .none (s.currentValue k))
    | .closing => some (s.openBreaker k .manual .none false .open .none .none (s.currentValue k))
    | .deadTime => some (s.enterOpen k)
    | .waitPartner => some (s.enterOpen k)
    | .lineTest => some ((s.cancelTest k).enterOpen k)
    | .open => none
    | .opening => none
    | .lockedOut => none
    | .blocked => none

/-- Reset Feeder is taken (R86). -/
def State.mayReset (s : State) (k : Fin 6) : Bool :=
  s.sts.complete && s.feeder[k].state == .lockedOut &&
  !(s.feeder[k].lockCause == .channel && s.ifFailed k) && !(s.feeder[k].lockCause == .bf && s.bfbClosed k)

/-- An accepted Reset Feeder or local reset (R86). -/
def State.resetAccepted (k : Fin 6) (s : State) : State :=
  let f := s.feeder[k]
  let s := s.setFeeder k { f with attempt := 0, lost := f.lost && s.ulFailed k }
  let s := s.clearItOut k
  if s.sts.mode = .safe then s.enterBlocked k .station
  else if s.bfbClosed k then s.enterClosed k
  else s.enterOpen k

/-- LOCAL_RESET_k: a Reset Feeder without a reply (R86). -/
def State.localReset (k : Fin 6) (s : State) : State := if s.mayReset k then s.resetAccepted k else s

/-- Block Feeder, or none where it is refused (R87). -/
def State.blockRequest (k : Fin 6) (s : State) : Option State :=
  if !s.sts.complete then none
  else
    match s.feeder[k].state with
    | .closed => some (s.openBreaker k .manual .none false .blocked .none .request (s.currentValue k))
    | .closing => some (s.openBreaker k .manual .none false .blocked .none .request (s.currentValue k))
    | .opening =>
      if s.feeder[k].dest = some .lockedOut then none
      else some (s.setFeeder k { s.feeder[k] with dest := some .blocked, blockCause := .request })
    | .open => some (s.enterBlocked k .request)
    | .deadTime => some (s.enterBlocked k .request)
    | .waitPartner => some (s.enterBlocked k .request)
    | .lineTest => some ((s.cancelTest k).enterBlocked k .request)
    | .blocked => some (s.setFeeder k { s.feeder[k] with blockCause := .request })
    | .lockedOut => none

/-- Unblock Feeder is taken (R87). -/
def State.mayUnblock (s : State) (k : Fin 6) : Bool :=
  s.feeder[k].state == .blocked && s.feeder[k].blockCause == .request && s.sts.complete && s.sts.mode != .start &&
  s.sts.mode != .safe

end Sys2Proof.Machine
end

