-- ==== Sys2Proof/Machine/Rectifier.lean ====
section
/-! DEFINITION. Chapter 6: the rectifier control unit, as far as it acts on its own records: sync supervision
(R113, R114), group states (R121, R122, R125, R127), firing and the regulator (R115..R120, R123), and the present
causes (R124). What changes the count of available groups stands in Station.lean. -/
namespace Sys2Proof.Machine

open Sys2Proof

-- ===================================================================== group states

/-- The record of a group that enters a state (R121). -/
def GroupRec.take (r : GroupRec) (st : GState) : GroupRec :=
  match st with
  | .starting =>
    { r with state := st, alpha := 1500, currentLimit := false, phasedBack := false, begun := false, anchor := none,
             delay := none }
  | .running => { r with state := st, delay := none }
  | .blocked =>
    { r with state := st, alpha := 1500, currentLimit := false, phasedBack := false, ocRun := 0, next := 0,
             begun := false, anchor := none, pulse := none, delay := some 5000 }
  | .off =>
    { r with state := st, alpha := 1500, currentLimit := false, phasedBack := false, ocRun := 0, next := 0,
             begun := false, anchor := none, pulse := none, delay := none }
  | .locked =>
    { r with state := st, alpha := 1500, currentLimit := false, phasedBack := false, ocRun := 0, next := 0,
             begun := false, anchor := none, pulse := none, delay := none }
  | .disabled =>
    { r with state := st, alpha := 1500, currentLimit := false, phasedBack := false, ocRun := 0, next := 0,
             begun := false, anchor := none, pulse := none, delay := none }

/-- Moves a group to a state and logs GROUP_STATE (R121). -/
def State.moveGroup (g : Fin 2) (st : GState) (why : GReason) (ref : CapRef) (s : State) : State :=
  (s.setGroupRec g (s.group[g].take st)).log .rcu (g.val + 1) .groupState (pair (g.val + 1) st.code)
    (uword (gReasonCode why)) ref

/-- The start test of a group in OFF (R122). -/
def State.startTest (g : Fin 2) (s : State) : State :=
  if s.group[g].state = .off ∧ s.sts.mode.feeds ∧ !s.anyCause g then s.moveGroup g .starting .start .none else s

/-- Entry to BLOCKED from STARTING or RUNNING (R125); in any other state the cause only stands (R124). -/
def State.blockGroup (g : Fin 2) (c : GCause) (s : State) : State :=
  if s.group[g].state.fires then
    let r := s.trigger srcGroupBlock
    (r.1.setGroupRec g { s.group[g] with blockCause := some c }).moveGroup g .blocked (.cause c) r.2
  else s

/-- What a change of station mode does to one group (R127). -/
def State.groupOnMode (m : Mode) (g : Fin 2) (s : State) : State :=
  match m with
  | .start => s
  | .normal => s.startTest g
  | .reduced => s.startTest g
  | .standby =>
    if s.group[g].state.fires ∨ s.group[g].state = .blocked then s.moveGroup g .off .standby .none else s
  | .safe =>
    if s.group[g].state.fires ∨ s.group[g].state = .blocked then s.moveGroup g .off .safe .none else s

/-- The station supervisor hands the RCU a change of station mode (R127). -/
def State.groupsOnMode (m : Mode) (s : State) : State := groups2.foldl (fun s g => s.groupOnMode m g) s

/-- A history as a restart or an operation finds it: every entry past limit ms of age is removed. One of exactly limit ms
whose ageing has not been taken still counts (R126, R148, R149, log 34). -/
def State.prune (s : State) (limit : Nat) (h : List Time) : List Time := h.filter fun t => s.since t ≤ limit

/-- The ageing of a history: its oldest entry is removed where it is limit ms old (R126, R149). -/
def State.age (s : State) (limit : Nat) : List Time → List Time
  | [] => []
  | t :: rest => if limit ≤ s.since t then rest else t :: rest

-- ===================================================================== sync supervision (R113, R114)

/-- A cycle from one rising crossing of phase A to the next is in range (R113). -/
def cycleInRange (len : Nat) (seen : Seen) : Bool := 18180 ≤ len && len ≤ 22220 && seen == .bc

/-- The counts on a judged cycle (R114); the change of state itself is the step SYNC_STATE_CHANGE. -/
def SyncRec.judge (r : SyncRec) (len : Nat) : SyncRec :=
  if cycleInRange len r.seen then
    let r := { r with period := some len }
    if r.locked then { r with bad := 0 } else { r with good := min 5 (r.good + 1) }
  else if r.locked then { r with bad := min 2 (r.bad + 1) } else { r with good := 0 }

/-- A rising crossing of phase A at a time: it ends a cycle, begins the next and restarts the 40 ms crossing timer
(R113). -/
def SyncRec.crossA (r : SyncRec) (time : Nat) : SyncRec :=
  let r := match r.lastCross with
    | none => r
    | some t => r.judge (time - t)
  { r with lastCross := some time, prevCross := r.lastCross, crossTimer := some 40000, seen := .nothing }

/-- A rising crossing of phase B or C: B then C, each once, keeps the cycle in range (R113). -/
def Seen.cross (v : Seen) (phase : Phase) : Seen :=
  match v, phase with
  | .nothing, .b => .b
  | .b, .c => .bc
  | _, _ => .wrong

/-- A phase-A crossing begins the cycle of a next thyristor that has waited for it (R115). -/
def GroupRec.beginCycle (r : GroupRec) (time : Nat) : GroupRec :=
  { r with anchor := if r.begun && r.anchor.isNone then some time else r.anchor }

/-- A rising crossing on a sync input. The supervisor works only while the clock is GOOD (R114). -/
def State.crossing (g : Fin 2) (phase : Phase) (time : Nat) (s : State) : State :=
  if s.aqu.clock ≠ .good then s
  else
    match phase with
    | .a => (s.setSyncRec g (s.sync[g].crossA time)).setGroupRec g (s.group[g].beginCycle time)
    | .b => s.setSyncRec g { s.sync[g] with seen := s.sync[g].seen.cross .b }
    | .c => s.setSyncRec g { s.sync[g] with seen := s.sync[g].seen.cross .c }

/-- Sync becomes LOST, and SYNC_LOST a present cause of the group (R114, R124). -/
def State.syncLost (g : Fin 2) (s : State) : State :=
  (s.setSyncRec g { s.sync[g] with locked := false, good := 0 }).blockGroup g .syncLost

/-- The crossing timer expires: no crossing of phase A for 40 ms (R113, R114). -/
def State.crossingExpiry (g : Fin 2) (s : State) : State :=
  if s.aqu.clock = .good ∧ expired s.sync[g].crossTimer then
    let s := s.setSyncRec g
      { s.sync[g] with lastCross := none, prevCross := none, crossTimer := none, seen := .nothing }
    if s.sync[g].locked then s.syncLost g else s.setSyncRec g { s.sync[g] with good := 0 }
  else s

/-- The condition of SYNC_STATE_CHANGE (R114). -/
def State.syncChangeDue (s : State) (g : Fin 2) : Bool :=
  if s.sync[g].locked then s.sync[g].bad == 2 else s.sync[g].good == 5

/-- The clock supervision enters FAIL: a sync is LOST and starts afresh (R114). -/
def State.syncClockFail (g : Fin 2) (s : State) : State :=
  (s.setSyncRec g .reset).blockGroup g .syncLost

-- ===================================================================== firing and the regulator (R115..R119)

/-- The firing instant of a thyristor m (counted from 0) at an angle, in tenths of a degree after the crossing that
begins its cycle (R115). -/
def firingTenths (m : Fin 6) (alpha : Nat) : Nat := 300 + 600 * m.val + alpha

/-- The firing instant of the next thyristor in µs of the sync time base, from the crossing that begins its own cycle and
the period (R115); none while that crossing has not come. -/
def State.firingTime (s : State) (g : Fin 2) : Option Nat :=
  match s.group[g].anchor, s.sync[g].period with
  | some t, some p => some (t + firingTenths s.group[g].next s.group[g].alpha * p / 3600)
  | _, _ => none

/-- The crossing that began the cycle of a thyristor whose first pulse, at 150°, is issued now. Its instant lies 180° to
480° after that crossing: those of thyristors 5 and 6 after the next crossing, that of thyristor 4 at it (R115, log 28). -/
def SyncRec.ownCross (r : SyncRec) (m : Fin 6) : Option Nat :=
  if m.val < 3 ∨ (m.val = 3 ∧ r.seen ≠ .nothing) then r.lastCross else r.prevCross

/-- The crossing of the cycle of the thyristor after m, whose own crossing is own: the same, and after thyristor 6 the
next one, where it has come (R115). -/
def SyncRec.nextCross (r : SyncRec) (m : Fin 6) (own : Option Nat) : Option Nat :=
  if m.val = 5 then (if r.lastCross = own then none else r.lastCross) else own

/-- A value clamped to lo..hi. -/
def clamp (lo hi v : Int) : Int := max lo (min hi v)

/-- The reference (R117). -/
def uref (uset droop : Nat) (ig1 ig2 : Int) : Int := uset - ((droop : Int) * (ig1 + ig2)).tdiv 1000

/-- The clamped step of an error (R117). -/
def regStep (ka : Nat) (e : Int) : Int := clamp (-20) 20 ((e * (ka : Int)).tdiv 16)

/-- The soft-start limit (R118). -/
def softStart (starting : Bool) (step : Int) : Int := if starting then min step 5 else step

/-- ILIM (R118). -/
def State.ilim (s : State) : Nat := if s.sts.mode = .reduced then s.station.ilimSingle else s.station.ilimG

/-- The limited step applied, with the overvoltage phase-back: α and the PHASED_BACK flag (R119). -/
def applyStep (c : StationCfg) (alpha : Nat) (phasedBack : Bool) (ub step : Int) : Nat × Bool :=
  if (c.uov : Int) ≤ ub then (1500, true)
  else if phasedBack ∧ (c.uov : Int) - 20 ≤ ub then (1500, true)
  else ((clamp c.alphaMin 1500 (alpha - step)).toNat, false)

/-- A regulator update on the latest frame record, not skipped (R117..R119). -/
def State.regulate (g : Fin 2) (s : State) : GroupRec :=
  let r := s.group[g]
  let c := s.station
  let ub := (s.reading chUB).value
  let uf := uref s.uset c.droop (s.reading (chIG 0)).value (s.reading (chIG 1)).value
  let e := uf - ub
  let soft := softStart (r.state == .starting) (regStep c.ka e)
  let limited := Decidable.decide ((s.ilim : Int) ≤ (s.reading (chIG g)).value)
  let step := if limited then -20 else soft
  let a := applyStep c r.alpha r.phasedBack ub step
  { r with alpha := a.1, phasedBack := a.2, currentLimit := limited
           last := some { uref := uf, e := e, step := step, ub := ub, frame := s.aqu.latest.number } }

/-- The regulator update of a firing, with the end of the soft start (R117, R123). -/
def State.update (g : Fin 2) (s : State) : State :=
  if (s.reading chUB).health = .stale then s
  else
    let starting := s.group[g].state = .starting
    let r := s.regulate g
    let s := s.setGroupRec g r
    match r.last with
    | some u => if starting ∧ u.e ≤ 10 then s.moveGroup g .running .running .none else s
    | none => s

/-- Advances the next thyristor, from 6 back to 1 (R116). -/
def State.advanceNext (g : Fin 2) (s : State) : State :=
  s.setGroupRec g { s.group[g] with next := s.group[g].next + 1 }

/-- A firing instant of a group; m is the thyristor whose commutation point comes first, used where firing has not
begun (R116, log 28). -/
def State.fire (g : Fin 2) (m : Fin 6) (s : State) : State :=
  if s.firingPermitted g then
    let r := s.group[g]
    let n := if r.begun then r.next else m
    let own := if r.begun then r.anchor else s.sync[g].ownCross m
    let s := s.setGroupRec g
      { r with next := n, begun := true, pulse := some n, anchor := s.sync[g].nextCross n own }
    (s.update g).advanceNext g
  else s

/-- The end of the 10° pulse (R116). -/
def State.pulseEnd (g : Fin 2) (s : State) : State := s.setGroupRec g { s.group[g] with pulse := none }

/-- A new αMIN raises the α of a STARTING or RUNNING group that lies below it (R120). -/
def State.raiseAlpha (g : Fin 2) (s : State) : State :=
  let r := s.group[g]
  if r.state.fires then s.setGroupRec g { r with alpha := max r.alpha s.station.alphaMin } else s

-- ===================================================================== present causes (R124)

/-- A temperature trip becomes present (R124). -/
def State.tempPresent (g : Fin 2) (s : State) : State :=
  (s.setGroupRec g { s.group[g] with temp := true }).blockGroup g .temp

/-- IGg is declared FAILED (R124). -/
def State.groupChannelFailed (g : Fin 2) (s : State) : State :=
  (s.setGroupRec g { s.group[g] with channel := true }).blockGroup g .channel

/-- The condition of OVERCURRENT (R124). -/
def State.overcurrentDue (s : State) (g : Fin 2) : Bool := s.group[g].state.fires && s.group[g].ocRun == 2

/-- The overcurrent run reaches 2 (R124). -/
def State.overcurrentTaken (g : Fin 2) (s : State) : State :=
  if s.overcurrentDue g then
    (s.setGroupRec g { s.group[g] with overcurrent := true }).blockGroup g .overcurrent
  else s

/-- The overcurrent run on a counted frame of a STARTING or RUNNING group (R124). -/
def GroupRec.countRun (r : GroupRec) (igTrip : Nat) (ig : Int) : GroupRec :=
  { r with ocRun := if (igTrip : Int) ≤ ig then min 2 (r.ocRun + 1) else 0 }

end Sys2Proof.Machine
end

