-- ==== Sys2Proof/Machine/Station.lean ====
section
/-! DEFINITION. Chapter 7: the station supervisor: modes (R136, R141), SAFE causes and the entry to SAFE (R143, R144),
resume (R146), the frame fault element (R147), the rail potential element (R148..R151), supervision of the station
computer (R152), and the group changes that move the station mode (R126, R129..R131). -/
namespace Sys2Proof.Machine

open Sys2Proof

-- ===================================================================== modes (R136, R141)

/-- Enters a mode other than SAFE: STATION_MODE is logged and the RCU takes the mode (R136). -/
def State.changeMode (m : Mode) (why : ModeCause) (s : State) : State :=
  ((s.setSts { s.sts with mode := m }).logSts .stationMode (uword m.code) (uword (modeCauseCode why))).groupsOnMode m

/-- The mode of a count of available groups while RUN is set (R141). -/
def modeOfCount : Nat → Mode
  | 0 => .standby
  | 1 => .reduced
  | _ => .normal

/-- The cause of a mode derived from the count (R141). -/
def causeOfCount (n : Nat) : ModeCause := if n = 0 then .noGroup else .groups

/-- The RCU hands a change of the count of available groups (R121, R141). -/
def State.groupsChanged (s : State) : State :=
  let n := s.availableGroups
  if n = s.sts.available then s
  else
    let s := s.setSts { s.sts with available := n }
    if s.sts.run ∧ s.sts.mode ≠ modeOfCount n then s.changeMode (modeOfCount n) (causeOfCount n) else s

-- ===================================================================== SAFE (R143, R144, R146)

/-- The change of a SAFE cause as its event carries it: PRESENT, CLEARED (section 11.3). -/
def causePresentCode : Nat := 0
def causeClearedCode : Nat := 1

/-- The presence of one SAFE cause. -/
def Sts.hasCause (r : Sts) : SafeCause → Bool
  | .clockFail => r.clockFail
  | .channelUb => r.channelUb
  | .channelIfe => r.channelIfe
  | .frameFault => r.frameFault
  | .breakerFail k => r.breakerFail[k]

/-- Sets or clears one SAFE cause. -/
def Sts.setCause (r : Sts) (c : SafeCause) (b : Bool) : Sts :=
  match c with
  | .clockFail => { r with clockFail := b }
  | .channelUb => { r with channelUb := b }
  | .channelIfe => { r with channelIfe := b }
  | .frameFault => { r with frameFault := b }
  | .breakerFail k => { r with breakerFail := r.breakerFail.set k b }

/-- Every feeder sequence takes the station trip (R144, R83). -/
def State.tripAll (s : State) : State := feeders6.foldl (fun s k => s.stationTrip k) s

/-- The section coordinator takes the station trip (R51). -/
def State.itOutAll (s : State) : State := feeders6.foldl (fun s k => s.setItOut k itStation) s

/-- The entry to SAFE (R144). -/
def State.enterSafe (s : State) : State :=
  let s := s.setSts { s.sts with mode := .safe, run := false }
  let s := s.tripAll.itOutAll.groupsOnMode .safe
  let r := s.trigger srcStation
  r.1.log .sts 0 .stationMode (uword Mode.safe.code) (uword (modeCauseCode .safe)) r.2

/-- A SAFE cause becomes present (R143). -/
def State.causePresent (c : SafeCause) (s : State) : State :=
  if s.sts.hasCause c then s
  else
    let s := (s.setSts (s.sts.setCause c true)).logSts .safeCause (safeCauseValue c) (uword causePresentCode)
    if s.sts.mode = .safe then s else s.enterSafe

/-- A SAFE cause clears; the station stays in SAFE (R143). -/
def State.causeCleared (c : SafeCause) (s : State) : State :=
  if s.sts.hasCause c then
    (s.setSts (s.sts.setCause c false)).logSts .safeCause (safeCauseValue c) (uword causeClearedCode)
  else s

/-- Resume Station is taken (R146). -/
def State.mayResume (s : State) : Bool := s.sts.mode == .safe && !s.safeCauses.any && s.sts.complete

/-- The section coordinator takes the SAFE exit (R51). -/
def State.itOutExit (k : Fin 6) (s : State) : State :=
  if s.feeder[k].state = .lockedOut then s else s.clearItOut k

/-- An accepted Resume Station (R146). -/
def State.resume (s : State) : State :=
  let s := (s.setSts { s.sts with run := false }).changeMode .standby .resume
  let s := feeders6.foldl (fun s k => s.safeExit k) s
  feeders6.foldl (fun s k => s.itOutExit k) s

-- ===================================================================== breaker failure (R65, R143)

/-- A breaker failure of feeder k with its handover to the station supervisor (R65, R143). -/
def State.breakerFailure (k : Fin 6) (s : State) : State :=
  let s := (s.breakerFailed k).causePresent (.breakerFail k)
  if s.bfbClosed k then s else s.causeCleared (.breakerFail k)

/-- T_OPEN_MAX expires (R63..R65): with the breaker open the opening is complete, and took T_OPEN_MAX (log 33). -/
def State.openExpiry (k : Fin 6) (s : State) : State :=
  if s.timing k .opening then
    if s.bfbClosed k then s.breakerFailure k else s.openingDone k (s.general k).tOpenMax
  else s

/-- A reported change of BFB_k is handed to the feeder sequence and to the SAFE cause BREAKER_FAIL (R143, R158). -/
def State.bfbReported (k : Fin 6) (s : State) : State :=
  if s.bfbClosed k then s.bfbAsserts k else (s.bfbReleases k).causeCleared (.breakerFail k)

-- ===================================================================== groups and the station (R126, R129..R131)

/-- A group locks after too many restarts (R126). -/
def State.lockGroup (g : Fin 2) (s : State) : State :=
  ((s.setGroupRec g { s.group[g] with lockRestarts := true }).moveGroup g .locked .restarts .none).groupsChanged

/-- The restart test of a BLOCKED group whose delay has expired (R126). -/
def State.restartTest (g : Fin 2) (s : State) : State :=
  if s.group[g].state = .blocked ∧ s.group[g].delay = none ∧ !s.anyCause g ∧ s.sts.mode.feeds then
    let h := s.prune 600000 s.group[g].history
    let s := s.setGroupRec g { s.group[g] with history := h }
    if h.length < 2 then
      (s.setGroupRec g { s.group[g] with history := h ++ [s.elapsed] }).moveGroup g .starting .restart .none
    else s.lockGroup g
  else s

/-- A present cause of a group has cleared: the start test in OFF, the restart test in BLOCKED (R122, R126). -/
def State.groupCauseCleared (g : Fin 2) (s : State) : State := (s.startTest g).restartTest g

/-- The restart delay expires (R126). -/
def State.restartExpiry (g : Fin 2) (s : State) : State :=
  if s.group[g].state = .blocked ∧ expired s.group[g].delay then
    (s.setGroupRec g { s.group[g] with delay := none }).restartTest g
  else s

/-- The oldest entry of the restart history becomes 600 s old (R126). -/
def State.restartAged (g : Fin 2) (s : State) : State :=
  s.setGroupRec g { s.group[g] with history := s.age 600000 s.group[g].history }

/-- A temperature trip clears (R124). -/
def State.tempCleared (g : Fin 2) (s : State) : State :=
  (s.setGroupRec g { s.group[g] with temp := false }).groupCauseCleared g

/-- IGg is restored (R10, R124). -/
def State.groupChannelRestored (g : Fin 2) (s : State) : State :=
  (s.setGroupRec g { s.group[g] with channel := false }).groupCauseCleared g

/-- A change of sync state (R114). -/
def State.syncChange (g : Fin 2) (s : State) : State :=
  if s.syncChangeDue g then
    if s.sync[g].locked then s.syncLost g
    else (s.setSyncRec g { s.sync[g] with locked := true, bad := 0 }).groupCauseCleared g
  else s

/-- A group takes a frame record: the overcurrent run while it fires, the clearing of OVERCURRENT otherwise (R124). -/
def State.groupFrame (g : Fin 2) (s : State) : State :=
  let r := s.reading (chIG g)
  if r.health = .stale then s
  else if s.group[g].state.fires then s.setGroupRec g (s.group[g].countRun s.station.igTrip r.value)
  else if s.group[g].overcurrent ∧ r.value < (s.station.igTrip : Int) then
    (s.setGroupRec g { s.group[g] with overcurrent := false }).groupCauseCleared g
  else s

/-- An accepted Enable Group (R129). -/
def State.enableTaken (g : Fin 2) (s : State) : State :=
  ((s.moveGroup g .off .request .none).groupsChanged).startTest g

/-- An accepted Reset Group (R131). -/
def State.resetTaken (g : Fin 2) (s : State) : State :=
  (s.setGroupRec g { s.group[g] with history := [] }).enableTaken g

/-- Disable Group (R130). -/
def State.disableTaken (g : Fin 2) (s : State) : State :=
  if s.group[g].state = .disabled then s else (s.moveGroup g .disabled .request .none).groupsChanged

-- ===================================================================== frame fault element (R147)

/-- The frame fault counter on a counted frame (R147). -/
def State.ffNext (s : State) : Nat :=
  let r := s.reading chIFE
  if r.health = .failed ∨ s.suspended ∨ s.sts.frameFault ∨ r.value < (s.station.ifeSet : Int) then 0
  else min 4000 (s.sts.ffCount + 1)

/-- The frame fault element takes a frame record (R143, R147). -/
def State.ffFrame (s : State) : State :=
  let r := s.reading chIFE
  if r.health = .stale then s
  else
    let n := s.ffNext
    let s := s.setSts { s.sts with ffCount := n, ffDue := Decidable.decide (4 * s.station.tFe ≤ n), ffValue := r.value }
    if r.health ≠ .failed ∧ r.value < (s.station.ifeSet : Int) then s.causeCleared .frameFault else s

/-- The frame fault element operates (R147). -/
def State.frameFaultTaken (s : State) : State :=
  if s.sts.ffDue then
    let n := s.sts.ffCount
    let s := s.setSts { s.sts with ffDue := false, ffCount := 0 }
    (s.logSts .frameFault (word s.sts.ffValue) (uword n)).causePresent .frameFault
  else s

-- ===================================================================== rail potential element (R148..R151)

/-- Logs RAIL_EARTH. -/
def State.logRail (a : RailAction) (v : Nat) (s : State) : State :=
  s.logSts .railEarth (uword (railActionCode a)) (uword v)

/-- The rail potential record with both stages at 0. -/
def Sts.zeroStages (r : Sts) : Sts := { r with stage1 := 0, stage2 := 0, stage1Due := false, stage2Due := false }

/-- The rail potential element takes a frame record (R148). The record that restores UR is not counted: the element
returns to service with CHANNEL_RESTORED, after it, which is the model's choice (R151, log 38). -/
def State.railFrame (s : State) : State :=
  let r := s.reading chUR
  if s.sts.complete ∧ s.sts.urInService ∧ s.sts.contact = .released ∧ r.health ≠ .stale then
    let n1 := if s.station.urpSet ≤ s.railMagnitude then min 40000 (s.sts.stage1 + 1) else 0
    let n2 := if 250 ≤ s.railMagnitude then min 2 (s.sts.stage2 + 1) else 0
    s.setSts { s.sts with
      stage1 := n1, stage2 := n2, stage1Due := Decidable.decide (4 * s.station.tUrp ≤ n1), stage2Due := Decidable.decide (2 ≤ n2) }
  else s

/-- The condition of RAIL_EARTH_OPERATE (R148). -/
def State.railDue (s : State) : Bool :=
  s.sts.contact == .released && s.sts.urInService && (s.sts.stage1Due || s.sts.stage2Due)

/-- The stage that an operation names (R148). -/
def Sts.railStage (r : Sts) : Nat := if r.stage2Due then 2 else 1

/-- The rail potential element operates (R148, R150). An entry exactly 60 s old whose ageing has not been taken counts, as
R149 says of the two arriving together; R148 would remove it (log 34). -/
def State.railOperate (s : State) : State :=
  if s.railDue then
    let stage := s.sts.railStage
    let s := s.setSts s.sts.zeroStages
    if !s.rplFitted then s.logRail .operated stage
    else
      let h := s.prune 60000 s.sts.railHistory
      if h.length < 2 then
        (s.setSts { s.sts with
          railHistory := h ++ [s.elapsed], contact := .held, hold := some (s.station.tRpl * 1000) }).logRail .operated
          stage
      else (s.setSts { s.sts with railHistory := h, contact := .latched, hold := none }).logRail .latched stage
  else s

/-- The hold time expires (R149, R151). -/
def State.holdExpiry (s : State) : State :=
  if s.sts.contact = .held ∧ expired s.sts.hold then
    let r := s.reading chUR
    if r.health = .good ∧ s.railMagnitude < s.station.urpSet then
      (s.setSts { s.sts with contact := .released, hold := none }).logRail .released s.railMagnitude
    else
      (s.setSts { s.sts with hold := some (s.station.tRpl * 1000) }).logRail .holdRestarted
        (if r.health = .good then s.railMagnitude else 0)
  else s

/-- The oldest entry of the operation history becomes 60 s old (R149). -/
def State.railAged (s : State) : State := s.setSts { s.sts with railHistory := s.age 60000 s.sts.railHistory }

/-- An accepted Reset Rail Earthing (R150). -/
def State.railReset (s : State) : State :=
  (s.setSts { s.sts.zeroStages with contact := .released, hold := none, railHistory := [] }).logRail .reset 0

/-- UR is declared FAILED (R151). -/
def State.railOut (s : State) : State :=
  (s.setSts { s.sts.zeroStages with urInService := false }).logRail .outOfService 0

/-- UR is restored (R151). -/
def State.railIn (s : State) : State :=
  (s.setSts { s.sts.zeroStages with urInService := true }).logRail .inService 0

-- ===================================================================== station computer (R128, R152)

/-- The supervision period of a setting: stopped when off (R152). -/
def StationCfg.supervision (c : StationCfg) : Option Nat :=
  if c.hostSupervision = 0 then none else some (c.hostSupervision * 1000)

/-- A request that counts (R152). -/
def State.hostHeard (s : State) : State :=
  let was := s.sts.present
  let s := s.setSts { s.sts with
    present := true, supTimer := if s.sts.complete then s.station.supervision else s.sts.supTimer }
  if was then s else s.logSts .hostPresent (uword (min 65535 (s.since s.sts.absentSince / 1000))) 0

/-- The supervision timer expires (R152, R153). HOST_ABSENT carries HOST_SUPERVISION as it stands at the expiry, which is
the model's choice where the setting was rewritten meanwhile (log 33). -/
def State.hostLost (s : State) : State :=
  if expired s.sts.supTimer then
    let s := s.setSts { s.sts with present := false, supTimer := none, absentSince := s.elapsed }
    let s := s.logSts .hostAbsent (uword s.station.hostSupervision) 0
    { s with uset := s.station.uset }
  else s

end Sys2Proof.Machine
end

