-- ==== Sys2Proof/Machine/Sections.lean ====
section
/-! DEFINITION. Chapter 3: the section coordinator: the feeding condition and setting group (R47, R48), the partner
fields written from a telegram or cleared (R43..R46), what this end reports (R49), and the intertrip received (R52). -/
namespace Sys2Proof.Machine

open Sys2Proof

-- ===================================================================== feeding condition (R47, R48)

/-- A partner mode that counts as feeding a section (R47). -/
def feedsSection (m : Option Mode) (bOnReduced : Bool) : Bool :=
  m == some .normal || (m == some .reduced && !bOnReduced)

/-- The section is known to be fed from both ends (R47). -/
def State.fedDouble (s : State) (k : Fin 6) : Bool :=
  match s.partnerOf k with
  | none => false
  | some j =>
    s.link[j].up && feedsSection s.link[j].mode s.cfg.sections[k].bOnReduced && s.sec[k].summary == .closed

/-- Re-evaluates the feeding condition; a change is the change of group that GROUP_CHANGE logs (R47, R48). -/
def State.reevaluate (k : Fin 6) (s : State) : State :=
  if s.fedDouble k = s.sec[k].double then s
  else
    let c := { s.sec[k] with double := s.fedDouble k }
    (s.setSec k c).log .sco (k.val + 1) .groupChange (uword (k.val + 1)) (uword c.active.code) .none

-- ===================================================================== intertrip received (R52)

/-- The parts of intertrip_in as codes: TELEGRAM, TERMINAL. -/
def partTelegram : Nat := 0
def partTerminal : Nat := 1

/-- intertrip_in has changed from clear to set: INTERTRIP_RECEIVED, and the intertrip is handed to the feeder (R52). -/
def State.intertripReceived (k : Fin 6) (part : Nat) (s : State) : State :=
  (s.log .sco (k.val + 1) .intertripReceived (uword (k.val + 1)) (uword part) .none).intertrip k

/-- Hands a rising of intertrip_in against its level before (R52). -/
def State.handIntertrip (k : Fin 6) (before : Bool) (part : Nat) (s : State) : State :=
  if !before ∧ s.sec[k].itIn then s.intertripReceived k part else s

/-- The processed level of IT_IN_k becomes the terminal part (R52). -/
def State.setItTerminal (k : Fin 6) (level : Bool) (s : State) : State :=
  let before := s.sec[k].itIn
  (s.setSec k { s.sec[k] with itTerminal := level }).handIntertrip k before partTerminal

-- ===================================================================== partner fields (R43..R46)

/-- A section with its partner fields cleared (R43, R46). -/
def Section.clearPartner (c : Section) : Section := { c with summary := .unknown, porigin := .none, itTelegram := false }

/-- A section written from the first entry of a telegram that names its partner feeder (R45). -/
def Section.write (c : Section) (feeder : Nat) (es : List Entry) : Section :=
  match es.find? (fun e => e.feeder == feeder) with
  | none => c.clearPartner
  | some e =>
    { c with summary := if e.testing then .testing else e.summary, porigin := e.origin, itTelegram := e.intertrip }

/-- The section names a partner entry, enabled or not. -/
def State.names (s : State) (k : Fin 6) (j : Fin 4) : Bool := s.cfg.sections[k].partner == some j

/-- Hands one section's changes, once the whole telegram has been written: the summary, the intertrip, and the feeding
condition (R52, R55). R55 leaves the order open; this one is the model's choice, and so is that the close of a live line,
which a summary of CLOSED allows, comes as LIVE_LINE after all three (log 46). before is the section as it stood. -/
def State.handSection (k : Fin 6) (before : Section) (s : State) : State :=
  let s := if s.sec[k].summary = before.summary then s else s.summaryChanged k
  (s.handIntertrip k before.itIn partTelegram).reevaluate k

/-- Writes an accepted telegram into the partner entry and its sections (R45). -/
def State.writeTelegram (j : Fin 4) (m : Mode) (groups : Nat) (es : List Entry) (s : State) : State :=
  let before := s.sec
  let s := s.setLink j { s.link[j] with mode := some m, groups := groups }
  let s := feeders6.foldl
    (fun s k => if s.names k j then s.setSec k (s.sec[k].write s.cfg.sections[k].partnerFeeder es) else s) s
  feeders6.foldl (fun s k => if s.names k j then s.handSection k before[k] else s) s

/-- Clears the partner fields of every section that names an entry, and re-evaluates them (R46, R47). -/
def State.clearSections (j : Fin 4) (s : State) : State :=
  let s := feeders6.foldl (fun s k => if s.names k j then s.setSec k s.sec[k].clearPartner else s) s
  feeders6.foldl (fun s k => if s.names k j then s.reevaluate k else s) s

/-- The change of link state to DOWN is handed to the feeders of the sections concerned (R55, R103). -/
def State.handLinkLost (j : Fin 4) (s : State) : State :=
  feeders6.foldl (fun s k => if s.names k j then s.linkLost k else s) s

/-- A replaced SECTION record: the partner fields are cleared, the change of summary handed, and the feeding condition
re-evaluated (R43). -/
def State.sectionReplaced (k : Fin 6) (s : State) : State :=
  let before := s.sec[k]
  (s.setSec k before.clearPartner).handSection k before

-- ===================================================================== what this end reports (R49)

/-- The summary sent of a feeder state (R49). -/
def FState.summary : FState → Summary
  | .closed => .closed
  | .closing => .open
  | .open => .open
  | .opening => .open
  | .deadTime => .open
  | .lineTest => .testing
  | .waitPartner => .waiting
  | .lockedOut => .locked
  | .blocked => .locked

/-- The origin sent of a trip origin (R49). -/
def Origin.sent : Origin → Origin
  | .none => .none
  | .own => .own
  | .intertrip => .intertrip
  | .manual => .manual
  | .channel => .manual
  | .station => .manual

/-- The section entry of feeder k (R49, R95). -/
def State.entryOf (s : State) (k : Fin 6) : Entry :=
  { feeder := k.val + 1, summary := s.feeder[k].state.summary, origin := s.feeder[k].origin.sent,
    intertrip := s.sec[k].itOut, testing := s.feeder[k].state == .lineTest }

/-- The section entries of the STATUS telegram for an entry, in ascending feeder index (R95). -/
def State.entriesFor (s : State) (j : Fin 4) : List Entry := (feeders6.filter (fun k => s.names k j)).map s.entryOf

end Sys2Proof.Machine
end

