-- ==== Sys2Proof/Machine/Links.lean ====
section
/-! DEFINITION. Chapter 5: the neighbour link controller: transmit queues (R95..R97), receiving and judging telegrams
(R91, R93, R98..R100), timeouts and links going down (R101..R103), forwarding (R104) and the link test (R107..R110). -/
namespace Sys2Proof.Machine

open Sys2Proof

-- ===================================================================== LINK_STATE events

/-- The LINK_STATE states of a port and of a partner link (section 11.3). -/
def PortState.code : PortState → Nat
  | .syncing => 0
  | .inSync => 1
  | .testing => 2

def linkUpCode : Nat := 3
def linkDownCode : Nat := 4

/-- A LINK_STATE event of a port: source index 1 for UP, 2 for DN. -/
def State.logPort (p : Port) (st : PortState) (v2 : Nat) (s : State) : State :=
  s.log .nlc (portCode p + 1) .linkState (uword st.code) (uword v2) .none

/-- A LINK_STATE event of a partner entry: source index 11 to 14. -/
def State.logPartner (j : Fin 4) (st : Nat) (cause : LinkCause) (s : State) : State :=
  s.log .nlc (11 + j.val) .linkState (uword st) (uword (linkCauseCode cause)) .none

-- ===================================================================== sending (R95, R96, log 19)

/-- Begins the transmission of the head of the queue where the line is idle; the resync pattern goes first where it is
due (R92, R96). A TEST telegram of this station joins the outstanding list as its transmission begins (R108). -/
def PortRec.startNext (now : Time) (r : PortRec) : PortRec :=
  match r.sending, r.queue with
  | none, q :: rest =>
    let r := { r with queue := rest, sending := some { item := q, afterResync := r.resyncDue }, resyncDue := false }
    match q.own, q.telegram.body with
    | true, .test pl =>
      { r with sent := r.sent + 1
               outstanding := r.outstanding ++ [{ seq := q.telegram.seq, payload := pl, sentAt := now }] }
    | _, _ => r
  | _, _ => r

/-- The queue without its oldest FORWARDED telegram; none where it holds none. -/
def dropForwarded : List Queued → Option (List Queued)
  | [] => none
  | q :: rest => if q.own then (dropForwarded rest).map (q :: ·) else some rest

/-- An own STATUS telegram for the same destination takes the place of a queued OWN one (R96). -/
def replaces (t : Telegram) (q : Queued) : Bool :=
  match t.body with
  | .status _ _ _ => q.own && q.telegram.dest == t.dest
  | .test _ => false

/-- A telegram joins a transmit queue (R96). -/
def PortRec.join (item : Queued) (r : PortRec) : PortRec :=
  if item.own then
    if r.queue.any (replaces item.telegram) then
      { r with queue := r.queue.filter (fun q => !replaces item.telegram q) ++ [item] }
    else if r.queue.length < 4 then { r with queue := r.queue ++ [item] }
    else
      match dropForwarded r.queue with
      | some q => { r with queue := q ++ [item], dropped := r.dropped + 1 }
      | none => { r with dropped := r.dropped + 1 }
  else if r.queue.length < 4 then { r with queue := r.queue ++ [item], forwarded := r.forwarded + 1 }
  else { r with dropped := r.dropped + 1 }

/-- Queues a telegram on a port, and begins its transmission where the line is idle. -/
def State.queueOn (p : Port) (item : Queued) (s : State) : State :=
  s.setPort p (((s.port p).join item).startNext s.elapsed)

/-- The STATUS telegram for a partner entry (R95). -/
def State.statusFor (s : State) (j : Fin 4) : Telegram :=
  { dest := BitVec.ofNat 8 s.cfg.partners[j].address, source := s.sts.address.getD 0, hops := s.cfg.partners[j].hops,
    seq := s.link[j].nextSeq, body := .status s.sts.mode s.runningGroups (s.entriesFor j) }

/-- A STATUS telegram is built for the entry (R95). -/
def State.sendsTo (s : State) (j : Fin 4) : Bool :=
  let c := s.cfg.partners[j]
  c.enabled && !(s.port c.port).disabled && (s.port c.port).state != .testing

/-- Builds and queues the STATUS telegram of one entry (R95). -/
def State.sendStatus (j : Fin 4) (s : State) : State :=
  if s.sendsTo j then
    let t := s.statusFor j
    let s := s.setLink j { s.link[j] with nextSeq := s.link[j].nextSeq + 1 }
    s.queueOn s.cfg.partners[j].port { own := true, telegram := t }
  else s

/-- A telegram period (R95). -/
def State.telegramPeriodTaken (s : State) : State :=
  if s.sts.complete then partners4.foldl (fun s j => s.sendStatus j) s else s

-- ===================================================================== links going down (R101..R103)

/-- The port's flag of a cause, set on it. -/
def PortRec.flagTimeout (r : PortRec) : PortRec := { r with timeoutFlag := true }

/-- A partner link goes from UP to DOWN (R103). -/
def State.linkDown (j : Fin 4) (cause : LinkCause) (s : State) : State :=
  let s := s.setLink j { s.link[j] with up := false, mode := none, groups := 0 }
  let s := s.logPartner j linkDownCode cause
  (s.clearSections j).handLinkLost j

/-- The supervision of a partner stops: the up-count 0 and no timeout (R101, R102). -/
def LinkRec.stop (l : LinkRec) : LinkRec := { l with upCount := 0, timeout := none, held := none }

/-- A port leaves IN_SYNC: each enabled partner on it is DOWN, its timeout stopped and its up-count 0 (R102). -/
def State.partnersDown (p : Port) (cause : LinkCause) (s : State) : State :=
  partners4.foldl
    (fun s j =>
      if s.cfg.partners[j].enabled ∧ s.cfg.partners[j].port = p then
        let s := s.setLink j s.link[j].stop
        if s.link[j].up then s.linkDown j cause else s
      else s) s

/-- The timeout of a partner expires (R101): an accepted telegram taken first has restarted it. -/
def State.partnerExpiry (j : Fin 4) (s : State) : State :=
  if expired s.link[j].timeout then
    let s := s.setLink j s.link[j].stop
    if s.link[j].up then
      let p := s.cfg.partners[j].port
      (s.setPort p (s.port p).flagTimeout).linkDown j .timeout
    else s
  else s

/-- The count of FORWARDED telegrams in a queue. -/
def forwardedIn (q : List Queued) : Nat := (q.filter fun q => !q.own).length

/-- The queue emptied, each FORWARDED telegram removed added to the dropped count (R92, R97). -/
def PortRec.emptyQueue (r : PortRec) : PortRec :=
  { r with queue := [], dropped := r.dropped + BitVec.ofNat 32 (forwardedIn r.queue) }

/-- The queue emptied once the telegram in transmission has finished: at once where none is (R92). -/
def PortRec.emptyAfterSending (r : PortRec) : PortRec :=
  match r.sending with
  | none => r.emptyQueue
  | some _ => { r with emptyDue := true }

/-- The telegram in transmission has finished: a queue that was to be emptied then is, and the next telegram begins
(R92, R96). -/
def PortRec.sendingDone (now : Time) (r : PortRec) : PortRec :=
  let r := { r with sending := none }
  (if r.emptyDue then { r.emptyQueue with emptyDue := false } else r).startNext now

/-- The end of a transmission (R92, R96). -/
def State.transmissionDone (p : Port) (s : State) : State := s.setPort p ((s.port p).sendingDone s.elapsed)

/-- A port enters SYNCING (R92, R110). -/
def State.enterSyncing (p : Port) (cause : LinkCause) (flag : Bool) (s : State) : State :=
  let r := (s.port p).emptyAfterSending
  let s := s.setPort p { r with
    state := .syncing, undecodable := 0, silence := 0, resyncDue := true, resync := r.resync || flag }
  (s.partnersDown p .syncing).logPort p .syncing (linkCauseCode cause)

/-- A port loses synchronisation: by eight undecodable telegrams, or by 20 ms of silence (R92). -/
def State.syncLoss (p : Port) (s : State) : State :=
  if (s.port p).state = .inSync then
    if (s.port p).undecodable = 8 then s.enterSyncing p .undecodable true
    else if (s.port p).silence = 20 then s.enterSyncing p .silence true
    else s
  else s

/-- The condition of PORT_SYNC_LOSS that stands in the record: eight undecodable telegrams (R92). -/
def State.syncLossDue (s : State) (p : Port) : Bool := (s.port p).state == .inSync && (s.port p).undecodable == 8

/-- Both ports are disabled: the station address is not valid (R94, R138). That a port which has reached IN_SYNC meanwhile is
taken back to SYNCING without LINK_STATE, and that the undecodable run is 0 after it, is the model's choice (log 43). -/
def State.disablePorts (s : State) : State :=
  ports2.foldl (fun s p => s.setPort p { s.port p with disabled := true, state := .syncing, undecodable := 0 }) s

/-- A replaced PARTNER record; old is the record it replaced (R44, R97). -/
def State.partnerReplaced (j : Fin 4) (old : PartnerCfg) (s : State) : State :=
  let was := s.link[j].up
  let s := s.setLink j
    { s.link[j].stop with up := false, lastSeq := none, nextSeq := 0, mode := none, groups := 0, lastAccepted := none }
  let s := s.setPort old.port
    { s.port old.port with
      queue := (s.port old.port).queue.filter fun q => !(q.own && q.telegram.dest == BitVec.ofNat 8 old.address) }
  let s := if was then s.logPartner j linkDownCode .reconfigured else s
  let s := s.clearSections j
  if was then s.handLinkLost j else s

-- ===================================================================== receiving (R91, R93, R98..R100)

/-- The enabled partner entry with an address, on a port (R99). No telegram from this station's own address is accepted,
whatever the entries hold (R41); that it sets ADDR_MISMATCH as one from no partner does is the model's choice (log 48). -/
def State.partnerFrom (s : State) (p : Port) (source : Byte) : Option (Fin 4) :=
  partners4.find? fun j =>
    s.sts.address != some source && s.cfg.partners[j].enabled && s.cfg.partners[j].address == source.toNat && s.cfg.partners[j].port == p

/-- What the sequence number of a telegram says against the last one accepted (R99). -/
inductive SeqJudge where
  | duplicate
  | inOrder
  | gap
deriving DecidableEq, Repr

/-- Judges a sequence number (R99). -/
def judgeSeq (last : Option Byte) (seq : Byte) : SeqJudge :=
  match last with
  | none => .inOrder
  | some l => if seq = l then .duplicate else if seq = l + 1 then .inOrder else .gap

/-- The record of a partner whose telegram has been accepted, up to step 3 of R100; a third count holds the telegram for
the step LINK_UP. -/
def LinkRec.accept (l : LinkRec) (now : Time) (gap : Bool) (t : Telegram) : LinkRec :=
  let l := { l with lastSeq := some t.seq, timeout := some 20, lastAccepted := some now }
  if l.up then l
  else
    let n := if gap then 1 else min 3 (l.upCount + 1)
    { l with upCount := n, held := if n = 3 then some t else none }

/-- Hands a STATUS telegram to the section coordinator (R45, R100). -/
def State.handTelegram (j : Fin 4) (t : Telegram) (s : State) : State :=
  match t.body with
  | .status m g es => s.writeTelegram j m g es
  | .test _ => s

/-- An accepted telegram (R100). -/
def State.accepted (j : Fin 4) (gap : Bool) (t : Telegram) (s : State) : State :=
  let was := s.link[j].up
  let s := s.setLink j (s.link[j].accept s.elapsed gap t)
  if was then s.handTelegram j t else s

/-- The acceptance test (R99). -/
def State.acceptTest (p : Port) (t : Telegram) (s : State) : State :=
  match s.partnerFrom p t.source with
  | none => s.setPort p { s.port p with addrMismatch := true }
  | some j =>
    match judgeSeq s.link[j].lastSeq t.seq with
    | .duplicate => s
    | .inOrder => s.accepted j false t
    | .gap => (s.setPort p { s.port p with seqGap := true }).accepted j true t

/-- The condition of LINK_UP (R100). -/
def State.linkUpDue (s : State) (j : Fin 4) : Bool :=
  !s.link[j].up && s.link[j].upCount == 3 && s.link[j].held.isSome

/-- A partner link goes UP, and the telegram that took it UP is handed on (R100). -/
def State.linkUpTaken (j : Fin 4) (s : State) : State :=
  if s.linkUpDue j then
    match s.link[j].held with
    | some t =>
      let s := s.setLink j { s.link[j] with up := true, held := none }
      (s.logPartner j linkUpCode .accepted).handTelegram j t
    | none => s
  else s

/-- The other port. -/
def otherPort : Port → Port
  | .up => .dn
  | .dn => .up

/-- A STATUS telegram for another station (R104). One discarded because the other port is TESTING is counted on that
port, whose queue it would have joined, which is the model's choice (log 37). -/
def State.forward (p : Port) (t : Telegram) (s : State) : State :=
  let q := otherPort p
  if s.sts.mode = .standby ∧ 0 < t.hops ∧ !(s.port q).disabled then
    if (s.port q).state = .testing then s.setPort q { s.port q with dropped := (s.port q).dropped + 1 }
    else s.queueOn q { own := false, telegram := { t with hops := t.hops - 1 } }
  else s.setPort p { s.port p with addrMismatch := true }

/-- A returning echo on a port in TESTING (R109). -/
def PortRec.echoed (r : PortRec) (seq : Byte) (payload : List Byte) : PortRec :=
  match r.outstanding.find? (fun o => o.seq == seq) with
  | none => r
  | some o =>
    let r := { r with outstanding := r.outstanding.erase o }
    if o.payload = payload then { r with good := r.good + 1 } else { r with errored := r.errored + 1 }

/-- A good telegram on a port that is in IN_SYNC or TESTING, after START (R98). -/
def State.treat (p : Port) (t : Telegram) (s : State) : State :=
  match t.body with
  | .test pl =>
    if some t.source = s.sts.address then
      if (s.port p).state = .testing then s.setPort p ((s.port p).echoed t.seq pl) else s
    else s.queueOn p { own := false, telegram := t }
  | .status _ _ _ =>
    if (s.port p).state = .testing then s
    else if some t.dest = s.sts.address then s.acceptTest p t
    else s.forward p t

/-- An undecodable telegram (R91, R109). -/
def PortRec.bad (r : PortRec) : PortRec :=
  let r := { r with crcErr := true, undecodable := min 8 (r.undecodable + 1) }
  if r.state = .testing then
    match r.outstanding with
    | [] => r
    | _ :: rest => { r with outstanding := rest, errored := r.errored + 1 }
  else r

/-- The first good telegram on a SYNCING port takes it to IN_SYNC (R93). -/
def State.regain (p : Port) (s : State) : State :=
  if (s.port p).state = .syncing then (s.setPort p { s.port p with state := .inSync }).logPort p .inSync 0 else s

/-- A telegram framed on a port (R91, R93, R94, R98). -/
def State.receive (p : Port) (bytes : List Byte) (symbolError : Bool) (s : State) : State :=
  if (s.port p).disabled then s
  else
    let s := s.setPort p { s.port p with silence := 0 }
    match (if symbolError then none else decodeTelegram bytes) with
    | none => s.setPort p (s.port p).bad
    | some t =>
      let s := (s.setPort p { s.port p with undecodable := 0 }).regain p
      if s.sts.complete then s.treat p t else s

/-- A valid idle symbol (R91). -/
def State.idleSymbol (p : Port) (s : State) : State := s.setPort p { s.port p with silence := 0 }

-- ===================================================================== link test (R107..R110)

/-- The first feeder, in feeder order, that refuses a link test on a port (R107). -/
def State.testBlocker (s : State) (p : Port) : Option (Fin 6) :=
  feeders6.find? fun k =>
    (match s.partnerOf k with
     | some j => s.cfg.partners[j].port == p
     | none => false) &&
    (s.feeder[k].state == .lineTest || s.feeder[k].state == .waitPartner)

/-- An accepted Start Link Test (R107). -/
def State.startTestOn (p : Port) (seconds : Nat) (s : State) : State :=
  let r := (s.port p).emptyQueue
  let s := s.setPort p { r with
    sent := 0, good := 0, errored := 0, missing := 0, testSeq := 0, testBuilt := 0, outstanding := []
    emptyDue := false, testLeft := some (seconds * 1000), state := .testing, undecodable := 0, silence := 0 }
  (s.partnersDown p .testing).logPort p .testing seconds

/-- Builds and queues the next TEST telegram (R108). -/
def State.sendTest (p : Port) (s : State) : State :=
  let r := s.port p
  if r.state = .testing then
    let t : Telegram :=
      { dest := 0, source := s.sts.address.getD 0, hops := 0, seq := r.testSeq,
        body := .test (Config.testPayload r.testBuilt).toList }
    (s.setPort p { r with testSeq := r.testSeq + 1, testBuilt := r.testBuilt + 1 }).queueOn p
      { own := true, telegram := t }
  else s

/-- The oldest outstanding entry is counted missing where it was sent 20 ms ago (R109): an echo taken first has removed
the entry, and a younger one stays. -/
def State.echoMissing (p : Port) (s : State) : State :=
  match (s.port p).outstanding with
  | [] => s
  | o :: rest =>
    if 20 ≤ s.since o.sentAt then
      s.setPort p { s.port p with outstanding := rest, missing := (s.port p).missing + 1 }
    else s

/-- A TEST telegram of this station. -/
def Queued.ownTest (q : Queued) : Bool :=
  match q.telegram.body with
  | .test _ => q.own
  | .status _ _ _ => false

/-- The test ends: TEST telegrams still waiting leave the queue, entries still outstanding are missing (R97, R110). -/
def State.endTest (p : Port) (s : State) : State :=
  let r := s.port p
  (s.setPort p { r with
    queue := r.queue.filter (fun q => !q.ownTest), missing := r.missing + r.outstanding.length, outstanding := []
    testLeft := none }).enterSyncing p .testEnd false

/-- The remaining time of a link test runs out (R110). -/
def State.testExpiry (p : Port) (s : State) : State :=
  if (s.port p).state = .testing ∧ expired (s.port p).testLeft then s.endTest p else s

-- ===================================================================== Read Link (R105)

/-- What Read Link returns of a partner entry. -/
def State.linkPartnerView (s : State) (j : Fin 4) : LinkPartnerView :=
  { entry := j.val + 1, enabled := s.cfg.partners[j].enabled, address := s.cfg.partners[j].address,
    hops := s.cfg.partners[j].hops, up := s.link[j].up, upCount := s.link[j].upCount, lastSeq := s.link[j].lastSeq,
    nextSeq := s.link[j].nextSeq, sinceAccepted := s.link[j].lastAccepted.map s.since }

/-- The reply to Read Link (R105). That the seconds remaining of a link test are the milliseconds left rounded up, and 0 where
no test runs, is the model's choice (log 47). -/
def State.linkView (s : State) (p : Port) : LinkView :=
  let r := s.port p
  { state := r.state, disabled := r.disabled, crcErr := r.crcErr, addrMismatch := r.addrMismatch, seqGap := r.seqGap,
    timeoutFlag := r.timeoutFlag, resync := r.resync, undecodable := r.undecodable, queued := r.queue.length,
    forwarded := r.forwarded, dropped := r.dropped
    partners := (partners4.filter (fun j => s.cfg.partners[j].port == p)).map s.linkPartnerView
    testRunning := r.state == .testing, secondsLeft := ((r.testLeft.getD 0) + 999) / 1000, sent := r.sent
    good := r.good, errored := r.errored, missing := r.missing }

/-- The five cause flags cleared (R105). -/
def PortRec.clearFlags (r : PortRec) : PortRec :=
  { r with crcErr := false, addrMismatch := false, seqGap := false, timeoutFlag := false, resync := false }

end Sys2Proof.Machine
end

