-- ==== Sys2Proof/Machine/Terminals.lean ====
section
/-! DEFINITION. Chapter 8: the field terminal block: breaker feedback filters (R158), sampling and filtering of the
programmable inputs (R159, R160), applying a TERMINAL record (R167, R168), Set Output (R165) and Read Terminals
(R161, R170). -/
namespace Sys2Proof.Machine

open Sys2Proof

-- ===================================================================== breaker feedback (R158)

/-- The raw level of BFB_k changes: a filter run of 1 ms starts, or is discarded. The first millisecond after reset is
one run. -/
def Bfb.rawChange (b : Bfb) (level : Bool) : Bfb :=
  if b.raw = level then b
  else if !b.settled then { b with raw := level }
  else { b with raw := level, filter := if level = b.reported then none else some 10 }

/-- A filter run ends: the raw level becomes the reported level. -/
def Bfb.settle (b : Bfb) : Bfb := { b with reported := b.raw, settled := true, filter := none }

/-- A window of the backup oscillator ends: running filters count down (R158). -/
def Bfb.window (b : Bfb) : Bfb := { b with filter := b.filter.map (· - 1) }

/-- A filter run of BFB_k ends. The first one after reset is no change; every other is handed to the sequence. -/
def State.bfbExpiry (k : Fin 6) (s : State) : State :=
  let b := s.bfb[k]
  if expired b.filter then
    let s := s.setBfb k b.settle
    if b.settled then s.bfbReported k else s
  else s

-- ===================================================================== owners of the input functions (R160)

/-- The processed level of TEMP_TRIP_g handed to the RCU (R124). -/
def State.setTemp (g : Fin 2) (level : Bool) (s : State) : State :=
  if s.group[g].temp = level then s else if level then s.tempPresent g else s.tempCleared g

/-- A change of processed level handed to the owner of a function (R160). RPL_FB is read from the record. -/
def State.handChange (fn : TermFn) (level : Bool) (s : State) : State :=
  match fn with
  | .tempTrip g => s.setTemp g level
  | .localReset k => if level then s.localReset k else s
  | .itIn k => s.setItTerminal k level
  | .none => s
  | .rplOut => s
  | .rplFb => s
  | .itOut _ => s
  | .alarmOut => s

/-- A first level handed to the owner of a function (R167): for LOCAL_RESET_k only the starting point. -/
def State.handFirst (fn : TermFn) (level : Bool) (s : State) : State :=
  match fn with
  | .tempTrip g => s.setTemp g level
  | .localReset _ => s
  | .itIn k => s.setItTerminal k level
  | .none => s
  | .rplOut => s
  | .rplFb => s
  | .itOut _ => s
  | .alarmOut => s

-- ===================================================================== sampling (R159)

/-- The sampled level of a raw level under the polarity of a mode (R159). -/
def TermMode.sampled (m : TermMode) (raw : Bool) : Bool :=
  match m with
  | .inFilteredInverted => !raw
  | .inPlain => raw
  | .inFiltered => raw
  | .outOpenDrain => raw
  | .outPushPull => raw
  | .through => raw

/-- An input terminal takes one sample: processed level and filter count (R159). -/
def Terminal.sample (r : Terminal) (raw : Bool) : Terminal :=
  let level := r.cfg.mode.sampled raw
  let r := { r with raw := raw }
  if r.cfg.mode = .inPlain then { r with proc := level, count := 0 }
  else if level = r.proc then { r with count := 0 }
  else if r.count + 1 < 20 then { r with count := r.count + 1 }
  else { r with proc := level, count := 0 }

/-- A change of terminal t's processed level (R160). -/
def State.terminalChanged (t : Fin 16) (s : State) : State :=
  let r := s.term[t]
  let s := s.setTerm t { r with change := true }
  let s := s.handChange r.cfg.fn r.proc
  if r.cfg.eventEnable then s.log .ftb (t.val + 1) .terminalChange (uword (t.val + 1)) (uword (bit r.proc)) .none else s

/-- Terminal t at a frame trigger. Until the end of START a change is no change (R168). -/
def State.sampleTerminal (t : Fin 16) (s : State) : State :=
  let r := s.term[t]
  if r.cfg.mode.isInput then
    let n := r.sample (s.lines.getLsbD t.val)
    let s := s.setTerm t n
    if n.proc = r.proc ∨ !s.sts.complete then s else s.terminalChanged t
  else s

/-- Every terminal at a frame trigger, in ascending order: that several changes of one trigger are handed and logged in this
order is the model's choice (log 32). -/
def State.sampleTerminals (s : State) : State := terminals16.foldl (fun s t => s.sampleTerminal t) s

-- ===================================================================== applying a record (R167)

/-- The previous function is left (R167). A record with the same function does not leave it (log 24). -/
def State.leaveFunction (fn : TermFn) (s : State) : State :=
  match fn with
  | .itIn k => s.setSec k { s.sec[k] with itTerminal := false }
  | .tempTrip g => s.setTemp g false
  | .rplOut => s.setSts { s.sts with contact := .released, hold := none, railHistory := [] }
  | .none => s
  | .localReset _ => s
  | .rplFb => s
  | .itOut _ => s
  | .alarmOut => s

/-- The working record of a terminal that takes a configuration, its line at level raw (R167). -/
def Terminal.apply (r : Terminal) (c : TermCfg) (raw : Bool) : Terminal :=
  if c.mode.isInput then { cfg := c, raw := raw, proc := c.mode.sampled raw, count := 0, change := false, out := false }
  else
    { cfg := c, raw := r.raw, proc := false, count := 0, change := false
      out := c.mode.isOutput && c.fn == .none && r.cfg.mode.isOutput && r.cfg.fn == .none && r.out }

/-- Applies a TERMINAL record (R167). -/
def State.applyTerminal (t : Fin 16) (c : TermCfg) (s : State) : State :=
  let old := s.term[t].cfg.fn
  let s := if old = c.fn then s else s.leaveFunction old
  let s := s.setTerm t (s.term[t].apply c (s.lines.getLsbD t.val))
  if c.mode.isInput then s.handFirst c.fn s.term[t].proc else s

/-- The loaded TERMINAL records, applied in ascending order at the end of START (R168). -/
def State.applyTerminals (s : State) : State :=
  terminals16.foldl (fun s t => s.applyTerminal t s.cfg.terminals[t]) s

-- ===================================================================== what the station computer sees

/-- The level of a line outside a sample (R164). -/
def State.setLine (t : Fin 16) (level : Bool) (s : State) : State :=
  { s with lines := if level then s.lines ||| (1#16 <<< t.val) else s.lines &&& ~~~(1#16 <<< t.val) }

/-- Set Output is taken (R165). -/
def State.maySetOutput (s : State) (t : Fin 16) : Bool :=
  s.sts.complete && s.term[t].cfg.mode.isOutput && s.term[t].cfg.fn == .none

/-- What Read Terminals returns of a terminal (R170). -/
def State.termView (s : State) (t : Fin 16) : TermView :=
  let r := s.term[t]
  { mode := r.cfg.mode, fn := r.cfg.fn, eventEnable := r.cfg.eventEnable, source := r.cfg.source, raw := r.raw
    proc := if r.cfg.mode.isInput then some (r.proc, r.count) else none
    out := if r.cfg.mode.isOutput then some (s.outLevel t) else none
    change := r.change }

/-- The change causes cleared (R161). -/
def State.clearChanges (s : State) : State := { s with term := vmap (fun r => { r with change := false }) s.term }

end Sys2Proof.Machine
end

