-- ==== Sys2Proof/Machine/Capture.lean ====
section
/-! DEFINITION. Chapter 9: one-second averages (R179), energy accounting (R181), and the capture store: arming (R184),
storing (R185, R187), completion (R187), stop, enable, disable and release (R188, R189, R191). Triggers stand in
Ops.lean. -/
namespace Sys2Proof.Machine

open Sys2Proof

-- ===================================================================== averages (R179)

/-- Adds a reading to a sum, and to its count: a STALE or FAILED channel adds nothing (R179). -/
def Avg.add (a : Avg) (c : Fin 17) (r : Reading) : Avg :=
  if r.health = .good then { a with sums := a.sums.set c (a.sums[c] + r.value), counts := a.counts.set c (a.counts[c] + 1) }
  else a

/-- A published record of the period in progress (R179). -/
def State.avgFrame (s : State) : State :=
  let a := channels17.foldl (fun (a : Avg) c => a.add c (s.reading c)) s.avg
  { s with avg := { a with records := a.records + 1 } }

/-- The mean of a sum and a count, truncated toward zero; none with a count of 0 (R179). -/
def meanOf (sum : Int) (count : Nat) : Option Int := if count = 0 then none else some (sum.tdiv count)

/-- The means of a completed period. -/
def Avg.meansOf (a : Avg) : Vector (Option Int) 17 :=
  channels17.foldl (fun (v : Vector (Option Int) 17) (c : Fin 17) => v.set c (meanOf a.sums[c] a.counts[c]))
    (Vector.replicate 17 none)

/-- The condition of AVERAGE_PERIOD_COMPLETE (R179). -/
def State.averageDue (s : State) : Bool := s.avg.records == 4000

/-- A period is complete (R179). -/
def State.averageTaken (s : State) : State :=
  if s.averageDue then
    { s with avg :=
      { sums := Vector.replicate 17 0, counts := Vector.replicate 17 0, records := 0, means := s.avg.meansOf
        meanCounts := s.avg.counts, period := s.avg.period + 1 } }
  else s

-- ===================================================================== energy (R181)

/-- Watt-frames in a watt-hour. -/
def wattHour : Int := 14400000

/-- An accumulator after a counted frame of power p, with the delivered and the returned count it makes (R181). -/
def energyStep (acc p : Int) : Int × Bool × Bool :=
  let a := acc + p
  if wattHour ≤ a then (a - wattHour, true, false)
  else if a ≤ -wattHour then (a + wattHour, false, true)
  else (a, false, false)

/-- A counter that counts one. -/
def countOne (c : Word32) (b : Bool) : Word32 := if b then c + 1 else c

/-- The energy of feeder k on a frame record (R181). -/
def State.feederEnergy (s : State) (e : Energy) (k : Fin 6) : Energy :=
  let ub := s.reading chUB
  let i := s.reading (chIF k)
  if ub.health = .good ∧ i.health = .good then
    let n := energyStep e.acc[k] (ub.value * i.value)
    { e with acc := e.acc.set k n.1, delivered := e.delivered.set k (countOne e.delivered[k] n.2.1)
             returned := e.returned.set k (countOne e.returned[k] n.2.2), lastCounted := s.aqu.latest.number }
  else e

/-- The energy of group g on a frame record (R181). -/
def State.groupEnergy (s : State) (e : Energy) (g : Fin 2) : Energy :=
  let ub := s.reading chUB
  let i := s.reading (chIG g)
  if ub.health = .good ∧ i.health = .good then
    let n := energyStep e.groupAcc[g] (ub.value * i.value)
    { e with groupAcc := e.groupAcc.set g n.1
             groupDelivered := e.groupDelivered.set g (countOne e.groupDelivered[g] n.2.1)
             lastCounted := s.aqu.latest.number }
  else e

/-- Energy accounting takes a frame record (R181, R182). -/
def State.energyFrame (s : State) : State :=
  { s with energy := groups2.foldl s.groupEnergy (feeders6.foldl s.feederEnergy s.energy) }

-- ===================================================================== arming (R184)

/-- The other buffer. -/
def BufId.other : BufId → BufId
  | .x => .y
  | .y => .x

/-- Arms a buffer with the pending descriptor (R184). -/
def State.arm (b : BufId) (s : State) : State :=
  let d := s.cfg.capture
  { s with cap := { s.cap.setBuf b { CapBuf.idle with state := .armed, desc := d } with active := d, toggle := b } }

/-- The arming test (R184). -/
def State.armTest (s : State) : State :=
  if s.cap.enabled ∧ s.cap.live = none then
    if (s.cap.buf s.cap.toggle).state = .idle then s.arm s.cap.toggle
    else if (s.cap.buf s.cap.toggle.other).state = .idle then s.arm s.cap.toggle.other
    else s
  else s

-- ===================================================================== storing (R185, R187)

/-- The slot of a frame record: the listed channels in list order (R185). -/
def State.slot (s : State) (d : Descriptor) : List Reading :=
  (d.list.take d.count).map fun n => if h : n < 17 then s.reading ⟨n, h⟩ else s.reading chUB

/-- A buffer takes a frame record (R185, R187). -/
def State.storeFrame (s : State) (b : CapBuf) : CapBuf :=
  match b.state with
  | .idle => b
  | .full => b
  | .armed =>
    if b.desc.pre = 0 then b
    else
      let fs := b.frames ++ [s.slot b.desc]
      { b with frames := fs.drop (fs.length - b.desc.pre) }
  | .recording =>
    if b.stop.isSome then { b with stopFrame := true } else { b with frames := b.frames ++ [s.slot b.desc] }

/-- The capture store takes a frame record (R185). -/
def State.captureFrame (s : State) : State :=
  { s with cap := { s.cap with x := s.storeFrame s.cap.x, y := s.storeFrame s.cap.y } }

/-- The post frames stored. -/
def CapBuf.postFrames (b : CapBuf) : Nat := b.frames.length - b.actualPre

/-- The record of a buffer is complete (R187). -/
def CapBuf.complete (b : CapBuf) : Bool := b.state == .recording && (b.stopFrame || b.desc.post ≤ b.postFrames)

/-- The buffer whose completion is due. -/
def State.captureDue (s : State) : Option BufId :=
  if s.cap.x.complete then some .x else if s.cap.y.complete then some .y else none

/-- The completed record (R187). That a stop pending is cleared with it is the model's choice (log 44). -/
def CapBuf.finish (b : CapBuf) : CapBuf :=
  { b with state := .full, actualPost := b.postFrames, stop := none, stopFrame := false
           cause := if b.stopFrame then b.stop.getD .stopped else .postDone }

/-- Completion of the record of a buffer (R187). -/
def State.completeCapture (b : BufId) (s : State) : State :=
  let r := (s.cap.buf b).finish
  let s := { s with cap := s.cap.setBuf b r }
  let s := s.log .cps (b.code + 1) .captureDone (uword r.actualPre) (uword r.actualPost) b.ref
  let s := { s with cap := { s.cap with toggle := b.other } }
  s.armTest

/-- CAPTURE_COMPLETE (R187). -/
def State.captureTaken (s : State) : State :=
  match s.captureDue with
  | none => s
  | some b => s.completeCapture b

-- ===================================================================== requests (R188, R189, R191)

/-- The live buffer returns to IDLE from ARMED, or has stop pending set in RECORDING; a stop already pending keeps its
cause (R188, R189). -/
def CapBuf.end (b : CapBuf) (why : DoneCause) : CapBuf :=
  if b.state = .armed then .idle else if b.stop.isSome then b else { b with stop := some why }

/-- Ends what a buffer does, with a cause. -/
def State.endLive (b : BufId) (why : DoneCause) (s : State) : State :=
  { s with cap := s.cap.setBuf b ((s.cap.buf b).end why) }

/-- An accepted Stop Capture for the live buffer (R188): the arming test is made from ARMED. -/
def State.stopLive (b : BufId) (s : State) : State :=
  if (s.cap.buf b).state = .armed then (s.endLive b .stopped).armTest else s.endLive b .stopped

/-- Enable Capture (R189). -/
def State.enableCaptureTaken (s : State) : State := { s with cap := { s.cap with enabled := true } }.armTest

/-- Disable Capture (R189). -/
def State.disableCaptureTaken (s : State) : State :=
  let s := { s with cap := { s.cap with enabled := false } }
  match s.cap.live with
  | none => s
  | some b => s.endLive b .disabled

/-- An accepted Release Capture (R191). -/
def State.releaseTaken (b : BufId) (s : State) : State := { s with cap := s.cap.setBuf b .idle }.armTest

-- ===================================================================== reading (R190, R192, R202)

/-- The frames of a record that fit one reply: 4 bytes, then 4 and 3 for each channel a frame, within 512 (R202). -/
def framesThatFit (channels : Nat) : Nat := 508 / (4 + 3 * channels)

/-- The record's length (R190). -/
def CapBuf.length (b : CapBuf) : Nat := b.actualPre + b.actualPost

/-- The count as applied (R190, R202). -/
def CapBuf.countApplied (b : CapBuf) (first count : Nat) : Nat :=
  min (min count (b.length - first)) (framesThatFit b.desc.count)

/-- Numbers the frames read from the record (R190). -/
def numberFrames : Word32 → List (List Reading) → List CapFrame
  | _, [] => []
  | n, f :: rest => { number := n, slot := f } :: numberFrames (n + 1) rest

/-- The frames that Read Capture returns (R190). -/
def CapBuf.read (b : CapBuf) (first count : Nat) : List CapFrame :=
  numberFrames (b.first + BitVec.ofNat 32 first) ((b.frames.drop first).take (b.countApplied first count))

/-- A buffer as Read Capture Status returns it; the header of an IDLE buffer is empty (R192). -/
def CapBuf.view (b : CapBuf) : BufView :=
  { state := b.state, stored := b.frames.length, stopPending := b.stop.isSome
    desc := if b.state = .idle then none else some b.desc
    triggers := b.triggers, further := b.further, first := b.first, actualPre := b.actualPre
    actualPost := b.actualPost, cause := b.cause }

end Sys2Proof.Machine
end

