-- ==== Sys2Proof/Machine/Acquisition.lean ====
section
/-! DEFINITION. Chapter 1: the acquisition unit: conversions (R2, R3), the frame trigger (R1, R4..R9), channel failure
and restoration with their handovers (R8, R10, R11), and the clock supervisor (R12..R16). -/
namespace Sys2Proof.Machine

open Sys2Proof

-- ===================================================================== conversions (R2, R3)

/-- The range of a channel (section 1.2). -/
def channelRange (c : Fin 17) : Int × Int :=
  if c.val = 0 then (0, 1500)
  else if c.val = 1 then (-300, 300)
  else if c.val ≤ 3 then (0, 6000)
  else if c.val ≤ 9 then (-8000, 8000)
  else if c.val ≤ 15 then (0, 1500)
  else (0, 200)

/-- A converter result, in thousandths of the channel's unit, scaled and clamped, with its SATURATED mark
(R2, R3, log 5). -/
def convert (c : Fin 17) (milli : Int) : Int × Bool :=
  let v := milli.tdiv 1000
  let r := channelRange c
  if v < r.1 then (r.1, true) else if r.2 < v then (r.2, true) else (v, false)

/-- Replaces one channel's record. -/
def State.setChannel (c : Fin 17) (r : Channel) (s : State) : State :=
  { s with aqu := { s.aqu with channels := s.aqu.channels.set c r } }

/-- The conversion started for a frame completes (R2). Without one in progress, and where a trigger taken first has
abandoned it, the completion does not act (R4). -/
def State.conversionDone (c : Fin 17) (frame : Word32) (milli : Int) (s : State) : State :=
  let r := s.aqu.channels[c]
  if r.converting && frame == s.aqu.nextFrame then s.setChannel c { r with converting := false, result := some (convert c milli) } else s

-- ===================================================================== the frame trigger (R4, R5, R7..R9)

/-- The reading a channel's held value gives under a mark. -/
def Channel.reading (r : Channel) (h : Health) : Reading := { value := r.held, health := h, sat := r.heldSat }

/-- A channel at the trigger that ends a frame, and what it publishes (R4, R7..R10); its next conversion starts. -/
def Channel.treat (r : Channel) : Channel × Reading :=
  match r.result with
  | some (v, sat) =>
    let r := { r with held := v, heldSat := sat, converting := true, result := none }
    if r.health = .failed then
      let n := min 64 (r.goodRun + 1)
      ({ r with goodRun := n }, r.reading (if n = 64 then .good else .failed))
    else ({ r with staleRun := 0, health := .good }, r.reading .good)
  | none =>
    let r := { r with converting := true, result := none }
    if r.health = .failed then ({ r with goodRun := 0 }, r.reading .failed)
    else ({ r with staleRun := min 4 (r.staleRun + 1), health := .stale }, r.reading .stale)

/-- Every channel treated, and the record published (R5). -/
def Aqu.publish (a : Aqu) : Aqu :=
  let rs := vmap (fun (c : Channel) => c.treat) a.channels
  { a with channels := vmap Prod.fst rs, latest := { number := a.nextFrame, readings := vmap Prod.snd rs }
           nextFrame := a.nextFrame + 1 }

/-- The capture store takes a record: capture, averages, energy (R179, R181, R185). -/
def State.storeTakesFrame (s : State) : State := s.captureFrame.avgFrame.energyFrame

/-- The feeder protection units take a record. -/
def State.feedersTakeFrame (s : State) : State := feeders6.foldl (fun s k => s.feederFrame k) s

/-- The rectifier control unit takes a record. -/
def State.groupsTakeFrame (s : State) : State := groups2.foldl (fun s g => s.groupFrame g) s

/-- The station supervisor takes a record. -/
def State.stationTakesFrame (s : State) : State := s.ffFrame.railFrame

/-- Every consumer takes the record published, in the order of log 7. -/
def State.consume (s : State) : State := s.storeTakesFrame.feedersTakeFrame.groupsTakeFrame.stationTakesFrame

/-- A frame trigger (R1, R5, R159): only while the clock is GOOD, since the frame timer runs only then. -/
def State.frame (lines : BitVec 16) (s : State) : State :=
  if s.aqu.clock = .good then
    let s := s.advance 250
    let s := { s with lines := lines }.sampleTerminals
    let s := { s with aqu := s.aqu.publish }
    s.consume
  else s

-- ===================================================================== failure and restoration (R8, R10, R11)

/-- The condition of CHANNEL_FAIL (R8). -/
def State.channelFailDue (s : State) (c : Fin 17) : Bool :=
  s.aqu.channels[c].staleRun == 4 && s.aqu.channels[c].health != .failed

/-- The condition of CHANNEL_RESTORED (R10). -/
def State.channelRestoredDue (s : State) (c : Fin 17) : Bool :=
  s.aqu.channels[c].goodRun == 64 && s.aqu.channels[c].health == .failed

/-- What a channel is (section 1.2). -/
inductive ChannelUse where
  | ub
  | ur
  | ig (g : Fin 2)
  | feederCurrent (k : Fin 6)
  | lineVoltage (k : Fin 6)
  | ife
deriving DecidableEq, Repr

/-- The use of a channel number (section 1.2). -/
def channelUse (c : Fin 17) : ChannelUse :=
  if c.val = 0 then .ub
  else if c.val = 1 then .ur
  else if h : c.val ≤ 3 then .ig ⟨(c.val - 2) % 2, by omega⟩
  else if h : c.val ≤ 9 then .feederCurrent ⟨(c.val - 4) % 6, by omega⟩
  else if h : c.val ≤ 15 then .lineVoltage ⟨(c.val - 10) % 6, by omega⟩
  else .ife

/-- A failure handed to the owner of the channel's function (R11). -/
def State.handFailure (u : ChannelUse) (s : State) : State :=
  match u with
  | .ub => s.causePresent .channelUb
  | .ur => s.railOut
  | .ig g => s.groupChannelFailed g
  | .feederCurrent k => s.currentFailed k
  | .lineVoltage k => s.voltageFailed k
  | .ife => s.causePresent .channelIfe

/-- A restoration handed to the owner: a cause that is a condition clears, a latched state stays (R11). -/
def State.handRestoration (u : ChannelUse) (s : State) : State :=
  match u with
  | .ub => s.causeCleared .channelUb
  | .ur => s.railIn
  | .ig g => s.groupChannelRestored g
  | .feederCurrent _ => s
  | .lineVoltage _ => s
  | .ife => s.causeCleared .channelIfe

/-- A channel becomes FAILED (R8). -/
def State.channelFailTaken (c : Fin 17) (s : State) : State :=
  if s.channelFailDue c then
    let r := s.aqu.channels[c]
    let s := s.setChannel c { r with health := .failed, staleRun := 0, goodRun := 0 }
    let s := s.log .aqu c.val .channelFail (uword c.val) (word r.held) .none
    s.handFailure (channelUse c)
  else s

/-- A FAILED channel is restored (R10). -/
def State.channelRestoredTaken (c : Fin 17) (s : State) : State :=
  if s.channelRestoredDue c then
    let r := s.aqu.channels[c]
    let s := s.setChannel c { r with health := .good, staleRun := 0, goodRun := 0 }
    let s := s.log .aqu c.val .channelRestored (uword c.val) (word (s.reading c).value) .none
    s.handRestoration (channelUse c)
  else s

-- ===================================================================== the clock supervisor (R12..R16)

/-- A count of main-oscillator periods in a window that is in tolerance (R12). -/
def inTolerance (n : Nat) : Bool := 2280 ≤ n && n ≤ 2520

/-- The counts at a window end (R13, R15, R16); entering FAIL or GOOD are steps of their own. That a stopped window in GOOD
counts as a bad one too is the model's choice (log 41). -/
def Aqu.judge (a : Aqu) (n : Nat) : Aqu :=
  match a.clock with
  | .good =>
    { a with badWindows := if inTolerance n then 0 else min 10 (a.badWindows + 1), stopped := n == 0 }
  | .fail => { a with goodWindows := if inTolerance n then min 1000 (a.goodWindows + 1) else 0 }
  | .unproven =>
    { a with goodWindows := if inTolerance n then min 1000 (a.goodWindows + 1) else 0
             elapsedWindows := min 2000 (a.elapsedWindows + 1) }

/-- A measurement window ends (R12). Its 100 µs of backup-oscillator time run the breaker feedback filters (R158), and
outside GOOD also station time and elapsed time (R155). The strap levels of its end are what the next reading of the straps
finds (R138, log 49). -/
def State.window (w : Window) (s : State) : State :=
  let s := if s.aqu.clock = .good then s else s.advance 100
  { s with straps := w.straps, bfb := vmap Bfb.window s.bfb, aqu := s.aqu.judge w.periods }

/-- The condition of CLOCK_FAIL (R13, R16). -/
def State.clockFailDue (s : State) : Bool :=
  (s.aqu.clock == .good && (s.aqu.badWindows == 10 || s.aqu.stopped)) ||
  (s.aqu.clock == .unproven && s.aqu.elapsedWindows == 2000 && s.aqu.goodWindows != 1000)

/-- The condition of CLOCK_GOOD (R15, R16). -/
def State.clockGoodDue (s : State) : Bool := s.aqu.clock != .good && s.aqu.goodWindows == 1000

/-- A reading of the latest record when the clock fails (R14). -/
def Reading.markStale (r : Reading) : Reading := if r.health = .good then { r with health := .stale } else r

/-- A channel when the clock fails: its conversion abandoned, its runs 0 (R14). -/
def Channel.stopClock (r : Channel) : Channel :=
  let r := { r with converting := false, result := none }
  if r.health = .failed then { r with goodRun := 0 } else { r with health := .stale, staleRun := 0 }

/-- The acquisition unit enters FAIL (R14, R16). -/
def Aqu.enterFail (a : Aqu) : Aqu :=
  { a with clock := .fail, stopped := false
           goodWindows := if a.clock = .unproven then a.goodWindows else 0
           latest := { a.latest with readings := vmap Reading.markStale a.latest.readings }
           channels := vmap Channel.stopClock a.channels }

/-- The clock supervisor enters FAIL; the syncs are lost before the station supervisor takes the cause (R14, R114,
log 21). -/
def State.clockFailTaken (s : State) : State :=
  if s.clockFailDue then
    let s := { s with aqu := s.aqu.enterFail }
    let s := groups2.foldl (fun s g => s.syncClockFail g) s
    s.causePresent .clockFail
  else s

/-- The acquisition unit enters GOOD: the frame timer starts, and with it the conversions of the frame in progress
(R15, R16, log 6). -/
def Aqu.enterGood (a : Aqu) : Aqu :=
  { a with clock := .good, badWindows := 0, stopped := false
           channels := vmap (fun (c : Channel) => { c with converting := true, result := none }) a.channels }

/-- The address straps are read, once after each reset; an invalid address disables the ports (R138). -/
def State.readStraps (s : State) : State :=
  match s.sts.address with
  | some _ => s
  | none =>
    let s := s.setSts { s.sts with address := some s.straps }
    if addressInvalid s.sts.address then s.disablePorts else s

/-- The clock supervisor enters GOOD (R15, R16, R137, R138). -/
def State.clockGoodTaken (s : State) : State :=
  if s.clockGoodDue then
    (({ s with aqu := s.aqu.enterGood }).causeCleared .clockFail).readStraps
  else s

end Sys2Proof.Machine
end

