-- ==== Sys2Proof/Machine/SettingsStore.lean ====
section
/-! DEFINITION. Chapter 11: the settings store: handing a record to its owner (R206, R120, R43, R44, R167), the write
restrictions (R42, R166), the load (R210), the store (R208) and the defaults (R209); and the end of START, which waits
for the load (R137, R139). -/
namespace Sys2Proof.Machine

open Sys2Proof

/-- Replaces the live records. -/
def State.setLive (c : Settings) (s : State) : State := { s with sst := { s.sst with live := c } }

/-- What the station supervisor and the rectifier control unit do at once with a STATION record (R120, R152). -/
def State.stationReplaced (s : State) : State :=
  let s := groups2.foldl (fun s g => s.raiseAlpha g) s
  if s.station.hostSupervision = 0 then s.setSts { s.sts with supTimer := none } else s

/-- Hands a replaced record to its owner; old is the set before (R206). FEEDER, group and CAPTURE records are read at
their next use. -/
def State.handRecord (old : Settings) (id : RecId) (s : State) : State :=
  match id with
  | .station => s.stationReplaced
  | .general _ => s
  | .groupA _ => s
  | .groupB _ => s
  | .sectionRec k => s.sectionReplaced k
  | .partner j => s.partnerReplaced j old.partners[j]
  | .terminal t => s.applyTerminal t s.cfg.terminals[t]
  | .capture => s

/-- Replaces a live record by a set's and hands it on; a settings-lost mark has the confirmation mark set (R206). -/
def State.replaceRecord (new : Settings) (id : RecId) (s : State) : State :=
  let old := s.cfg
  let s := s.setLive new
  let s := { s with sst := { s.sst with confirm := s.sst.confirm || s.sst.lost } }
  s.handRecord old id

/-- Writes the bytes of one record (R206). -/
def State.writeRecord (id : RecId) (bytes : List Byte) (s : State) : State :=
  s.replaceRecord (s.cfg.put bytes id) id

-- ===================================================================== write restrictions (R42, R166)

/-- The feeders that refer to a record (R42). -/
def State.refers (s : State) (id : RecId) (k : Fin 6) : Bool :=
  match id with
  | .sectionRec s => s == k
  | .partner j => s.names k j
  | .station => false
  | .general _ => false
  | .groupA _ => false
  | .groupB _ => false
  | .terminal _ => false
  | .capture => false

/-- A feeder state in which a record that refers to it can be written (R42). -/
def FState.writable : FState → Bool
  | .open => true | .blocked => true | .lockedOut => true
  | .closing => false | .closed => false | .opening => false | .deadTime => false | .lineTest => false
  | .waitPartner => false

/-- The first feeder, in feeder order, that forbids a write (R42). -/
def State.writeBlocker (s : State) (id : RecId) : Option (Fin 6) :=
  feeders6.find? fun k => s.refers id k && !s.feeder[k].state.writable

/-- A TERMINAL record. -/
def RecId.isTerminal : RecId → Bool
  | .terminal _ => true
  | .station => false | .general _ => false | .groupA _ => false | .groupB _ => false | .sectionRec _ => false
  | .partner _ => false | .capture => false

/-- The payload of the refusal of a write, or none where it is not restricted (R42, R166). -/
def State.writeRestriction (s : State) (id : RecId) : Option Payload :=
  match s.writeBlocker id with
  | some k => some (.feederNamed k s.feeder[k].state)
  | none => if id.isTerminal && s.sts.mode != .standby then some (.mode s.sts.mode) else none

-- ===================================================================== load, store, defaults (R208..R210)

/-- The image as it checks (R207, R210): its records where the CRC checks and every record passes. -/
def Sst.loadable (r : Sst) : Option Settings := if r.imageCrc = some (crc32 r.image) then parseImage r.image else none

/-- A load is complete (R210): step 3 of START has begun once the address is read (R137). SETTINGS_LOST carries the UNSET
mark as it stands (R155, R172), which is the model's choice after a Set Time taken before the load (log 40). -/
def State.loadDone (s : State) : State :=
  if s.sst.activity = .loading ∧ s.sts.address.isSome then
    let good := s.sst.loadable
    let live := good.getD .default
    let s := { s with sst := { s.sst with activity := .idle, live := live, lost := good.isNone, confirm := false } }
    let s := if good.isNone then s.log .sst 0 .settingsLost 0 0 .none else s
    { s with uset := live.station.uset, cap := { s.cap with active := live.capture } }
  else s

/-- Store Settings is taken (R208). -/
def State.storeTaken (s : State) : State :=
  { s with sst := { s.sst with activity := .storing, copy := some s.sst.live, imageCrc := none } }

/-- The CRC-32 has been written (R208). -/
def State.storeDone (s : State) : State :=
  match s.sst.activity, s.sst.copy with
  | .storing, some c =>
    let crc := crc32 c.image
    let s := { s with sst := { s.sst with
      activity := .idle, copy := none, image := c.image, imageCrc := some crc
      lost := s.sst.lost && !s.sst.confirm, confirm := false } }
    s.log .sst 0 .settingsStored (crc.extractLsb' 16 16) (crc.extractLsb' 0 16) .none
  | _, _ => s

/-- One record of a set taken over from another. -/
def Settings.copyOne (c d : Settings) : RecId → Settings
  | .station => { c with station := d.station }
  | .general k => { c with general := c.general.set k d.general[k] }
  | .groupA k => { c with groupA := c.groupA.set k d.groupA[k] }
  | .groupB k => { c with groupB := c.groupB.set k d.groupB[k] }
  | .sectionRec k => { c with sections := c.sections.set k d.sections[k] }
  | .partner j => { c with partners := c.partners.set j d.partners[j] }
  | .terminal t => { c with terminals := c.terminals.set t d.terminals[t] }
  | .capture => { c with capture := d.capture }

/-- Load Defaults is taken: every record, in the order of kind codes and index, as an accepted write (R209). -/
def State.defaultsTaken (s : State) : State :=
  RecId.all.foldl (fun s id => s.replaceRecord (s.cfg.copyOne .default id) id) s

-- ===================================================================== the end of START (R137, R139)

/-- The condition of START_COMPLETE: record 16 published and the load complete (R137). -/
def State.startDue (s : State) : Bool :=
  !s.sts.complete && s.sts.address.isSome && (16 : Nat) ≤ s.aqu.latest.number.toNat && s.sst.activity != .loading

/-- Every feeder is handed its adoption (R89, R137). -/
def State.adoptAll (s : State) : State := feeders6.foldl (fun s k => s.adopt k) s

/-- The end of START (R137, R139, R168). -/
def State.startTaken (s : State) : State :=
  if s.startDue then
    let s := s.adoptAll
    let s := s.setSts { s.sts with complete := true }
    let s :=
      if s.sts.mode = .start then
        s.changeMode .standby (if addressInvalid s.sts.address then .addressInvalid else .startEnd)
      else s
    let s := s.setSts { s.sts with supTimer := s.station.supervision }
    s.applyTerminals
  else s

-- ===================================================================== resets (R154, and each chapter's reset rule)

/-- The part after a reset of a kind. The image stays, its CRC invalid where a store was in progress (R208, R210); the
lines of the surroundings stay as they are. -/
def State.afterReset (c : RestartCause) (straps : Byte) (s : State) : State :=
  { State.reset with
    pending := s.pending
    straps := straps
    lines := s.lines
    bfb := vmap (fun b => Bfb.reset b.raw) s.bfb
    sts := .reset c
    sst := .reset s.sst.image (if s.sst.activity = .storing then none else s.sst.imageCrc) }

end Sys2Proof.Machine
end

