-- ==== Sys2Proof/Machine/Internal.lean ====
section
/-! DEFINITION. The steps the part raises of itself (95_what_each_step_holds.md), and settling: a step whose condition
stands in State is taken when it is commanded, or else before the next command of another kind (log 2). -/
namespace Sys2Proof.Machine

open Sys2Proof

/-- The condition of SOTF_WINDOW_END: an open close-onto-fault window that has counted down to 0 (R33). -/
def State.sotfDue (s : State) (k : Fin 6) : Bool := s.disc[k].windowOpen && s.disc[k].window == 0

/-- The close-onto-fault window ends (R33). -/
def State.sotfTaken (k : Fin 6) (s : State) : State :=
  if s.sotfDue k then s.setDisc k { s.disc[k] with windowOpen := false } else s

/-- The result of a line test whose window is full (R76, R77). -/
def State.testWindowTaken (k : Fin 6) (s : State) : State := if s.testWindowFull k then s.testWindowDone k else s

/-- PORT_SYNC_LOSS by eight undecodable telegrams (R92). -/
def State.syncLossTaken (p : Port) (s : State) : State := if s.syncLossDue p then s.syncLoss p else s

/-- Every internal step whose condition stands, once each, in the order of log 2. -/
def State.settle (s : State) : State :=
  let s := s.clockFailTaken.clockGoodTaken
  let s := channels17.foldl (fun s c => s.channelFailTaken c) s
  let s := channels17.foldl (fun s c => s.channelRestoredTaken c) s
  let s := feeders6.foldl (fun s k => s.sotfTaken k) s
  let s := feeders6.foldl (fun s k => s.testWindowTaken k) s
  let s := partners4.foldl (fun s j => s.linkUpTaken j) s
  let s := ports2.foldl (fun s p => s.syncLossTaken p) s
  let s := feeders6.foldl (fun s k => s.liveClose k) s
  let s := groups2.foldl (fun s g => s.syncChange g) s
  let s := groups2.foldl (fun s g => s.overcurrentTaken g) s
  s.frameFaultTaken.railOperate.averageTaken.captureTaken.startTaken

/-- No internal step is due. -/
def State.quiet (s : State) : Bool :=
  !s.clockFailDue && !s.clockGoodDue && channels17.all (fun c => !s.channelFailDue c && !s.channelRestoredDue c) &&
  feeders6.all (fun k => !s.sotfDue k && !s.testWindowFull k && !s.liveLineDue k) &&
  partners4.all (fun j => !s.linkUpDue j) && ports2.all (fun p => !s.syncLossDue p) &&
  groups2.all (fun g => !s.syncChangeDue g && !s.overcurrentDue g) &&
  !s.sts.ffDue && !s.railDue && !s.averageDue && s.captureDue.isNone && !s.startDue

end Sys2Proof.Machine
end

