-- ==== Sys2Proof/Machine/Operands.lean ====
section
/-! DEFINITION. The arguments of requests (section 11.3, "Arguments and codes") and how they are judged: the length
first, then each argument with the offset of the first out of range (R200). -/
namespace Sys2Proof.Machine

open Sys2Proof

/-- What the taking of a request gives: the state after it, the status code and the reply payload (R197). -/
structure Answer where
  state : State
  status : Status
  payload : Payload
deriving DecidableEq, Repr

/-- Answers of each status; those but OK and ACCEPTED leave the state as it is (R200). -/
def State.ok (s : State) (p : Payload) : Answer := { state := s, status := .ok, payload := p }
def State.acceptedWith (s : State) (p : Payload) : Answer := { state := s, status := .accepted, payload := p }
def State.refuse (s : State) (p : Payload) : Answer := { state := s, status := .refusedState, payload := p }
def State.busyWith (s : State) (p : Payload) : Answer := { state := s, status := .busy, payload := p }
def State.unknownKind (s : State) : Answer := { state := s, status := .unknownKind, payload := .empty }
def State.badLength (s : State) : Answer := { state := s, status := .badLength, payload := .empty }
def State.badArgument (s : State) (off : Nat) : Answer := { state := s, status := .badArgument, payload := .offset off }
def State.badSetting (s : State) (off : Nat) : Answer := { state := s, status := .badSetting, payload := .offset off }
def State.notFitted (s : State) : Answer := { state := s, status := .notFitted, payload := .empty }

/-- The payload length a request kind's layout gives (R200). -/
def withLength (n : Nat) (pl : List Byte) (s : State) (f : Answer) : Answer := if pl.length = n then f else s.badLength

/-- The number in one byte of a payload. -/
def byteAt (pl : List Byte) (off : Nat) : Nat := field pl off 1

/-- A feeder argument 1..6 (R200). -/
def feederArg (pl : List Byte) : Option (Fin 6) := index1 6 (byteAt pl 0)

/-- A group argument 1..2 (R200). -/
def groupArg (pl : List Byte) : Option (Fin 2) := index1 2 (byteAt pl 0)

/-- A terminal argument 1..16 (R200). -/
def terminalArg (pl : List Byte) : Option (Fin 16) := index1 16 (byteAt pl 0)

/-- A port argument: 0 UP, 1 DN (section 11.3). -/
def portArg (pl : List Byte) : Option Port :=
  if byteAt pl 0 = 0 then some .up else if byteAt pl 0 = 1 then some .dn else none

/-- A buffer argument: 0 X, 1 Y (section 11.3). -/
def bufferArg (pl : List Byte) : Option BufId :=
  if byteAt pl 0 = 0 then some .x else if byteAt pl 0 = 1 then some .y else none

/-- A level argument: 0 INACTIVE, 1 ACTIVE (section 11.3). -/
def levelArg (pl : List Byte) : Option Bool :=
  if byteAt pl 1 = 0 then some false else if byteAt pl 1 = 1 then some true else none

/-- A request that names an argument at offset 0: BAD_ARGUMENT where it is out of range (R200). -/
def withArg {α : Type} (n : Nat) (pl : List Byte) (arg : Option α) (s : State) (f : α → Answer) : Answer :=
  withLength n pl s (match arg with | some a => f a | none => s.badArgument 0)

/-- The payload length of Write Setting: the kind, the index and the record's length; a kind outside 1..8 is left to
the judgement of the arguments (R200), an empty payload names none (log 22). -/
def writeLengthOk (pl : List Byte) : Bool :=
  match pl with
  | [] => false
  | k :: _ => match recordLength k.toNat with
    | some n => pl.length == n + 2
    | none => true

end Sys2Proof.Machine
end

