-- ==== Sys2Proof/Machine/Answers.lean ====
section
/-! DEFINITION. What each request of the catalogue (section 10.8) does at its taking, and the reply it gives, by the rule
of its owner. -/
namespace Sys2Proof.Machine

open Sys2Proof

-- ===================================================================== station (chapter 7)

/-- The reply content of Read Station Status (R156). -/
def State.stationStatus (s : State) : StationStatus :=
  { mode := s.sts.mode, run := s.sts.run, complete := s.sts.complete, causes := s.safeCauses, clock := s.aqu.clock
    available := s.availableGroups, running := s.runningGroups, address := s.sts.address
    addressInvalid := Sys2Proof.Machine.addressInvalid s.sts.address, settingsLost := s.sst.lost
    present := s.sts.present, supTimer := s.sts.supTimer, ffCount := s.sts.ffCount, ffSuspended := s.suspended
    contact := s.sts.contact, urInService := s.sts.urInService, stage1 := s.sts.stage1, stage2 := s.sts.stage2
    hold := s.sts.hold, railAges := s.ages s.sts.railHistory, rplFb := s.rplFeedback
    restartCause := s.sts.restartCause, stationTime := s.stationTime, unset := s.unset, elapsed := s.elapsed }

/-- Read Station Status [01h] (R156). -/
def State.answerReadStationStatus (pl : List Byte) (s : State) : Answer :=
  withLength 0 pl s (s.ok (.station s.stationStatus))

/-- The reply payload of Run Station (R140). -/
def State.runReply (s : State) : Payload := .runStation s.sts.mode s.availableGroups s.sst.lost

/-- Run Station is taken (R140). -/
def State.mayRun (s : State) : Bool :=
  s.sts.mode == .standby && s.sts.complete && !s.sts.run && s.availableGroups != 0 && !s.sst.lost

/-- RUN is set and the mode derived (R140, R141). -/
def State.runTaken (s : State) : State :=
  (s.setSts { s.sts with run := true }).changeMode (modeOfCount s.availableGroups) .runRequest

/-- Run Station [02h] (R140). -/
def State.answerRunStation (pl : List Byte) (s : State) : Answer :=
  withLength 0 pl s
    (if s.sts.mode.feeds then s.ok s.runReply
     else if s.mayRun then s.runTaken.acceptedWith s.runTaken.runReply
     else s.refuse s.runReply)

/-- Standby Station is taken (R142). -/
def State.mayStandby (s : State) : Bool :=
  s.sts.mode == .standby || s.sts.mode == .normal || s.sts.mode == .reduced

/-- RUN is cleared; a feeding station enters STANDBY (R142). -/
def State.standbyTaken (s : State) : State :=
  let feeds := s.sts.mode.feeds
  let s := s.setSts { s.sts with run := false }
  if feeds then s.changeMode .standby .standbyRequest else s

/-- Standby Station [03h] (R142). -/
def State.answerStandbyStation (pl : List Byte) (s : State) : Answer :=
  withLength 0 pl s (if s.mayStandby then s.standbyTaken.ok .empty else s.refuse .empty)

/-- Resume Station [04h] (R146). -/
def State.answerResumeStation (pl : List Byte) (s : State) : Answer :=
  withLength 0 pl s
    (if s.mayResume then s.resume.ok .empty
     else s.refuse (if s.sts.mode = .safe then .causes s.safeCauses else .empty))

/-- Set Time [05h]: station time takes the value, its UNSET mark clears; elapsed time stays (R155). -/
def State.answerSetTime (pl : List Byte) (s : State) : Answer :=
  withLength 6 pl s
    (({ s with stationTime := BitVec.ofNat 48 (field pl 0 6), unset := false } : State).ok .empty)

/-- Restart [06h]: the reset follows the end of the reply (R154, R204). -/
def State.answerRestart (pl : List Byte) (s : State) : Answer :=
  withLength 0 pl s (({ s with cmp := { s.cmp with restartPending := true } } : State).ok .empty)

/-- Reset Rail Earthing [07h] (R150). -/
def State.answerResetRail (pl : List Byte) (s : State) : Answer :=
  withLength 0 pl s
    (if s.sts.mode = .start then s.refuse (.mode s.sts.mode)
     else if !s.rplFitted then s.notFitted
     else if s.sts.contact = .latched then s.railReset.ok .empty
     else s.refuse (.contact s.sts.contact))

-- ===================================================================== measurements (chapter 9)

/-- Read Measurements [10h] (R180). -/
def State.answerReadMeasurements (pl : List Byte) (s : State) : Answer :=
  withLength 0 pl s (s.ok (.measurements s.aqu.latest s.avg.means s.avg.meanCounts s.avg.period))

/-- Read Energy [11h] (R182). -/
def State.answerReadEnergy (pl : List Byte) (s : State) : Answer := withLength 0 pl s (s.ok (.energy s.energy))

-- ===================================================================== feeders (chapters 2 and 4)

/-- The reply content of Read Feeder (R38, R88). -/
def State.feederView (s : State) (k : Fin 6) : FeederView :=
  let d := s.disc[k]
  let f := s.feeder[k]
  { filtered := d.filtered, slope := d.slope, rising := d.rising
    riseView := if d.rising then some (d.base, d.elapsed, d.rise) else none
    imaxRun := d.imaxRun, dtCount := d.dtCount, window := d.window, groupInUse := d.groupInUse, frame := d.frame
    state := f.state, phase := f.phase, origin := f.origin, element := f.element, sotf := f.sotf, dest := f.dest
    attempt := f.attempt, limit := s.effectiveLimit k, lockCause := f.lockCause, blockCause := f.blockCause
    manual := f.manual, path := f.path, lost := f.lost, liveRun := f.liveRun, invalid := f.invalid
    count := if f.phase = some .window then some f.count else none
    timer := f.timer, lastTest := f.lastTest, close := s.closeLine k, trip := s.tripLine k, ltc := s.ltcLine k
    bfb := s.bfbClosed k }

/-- Read Feeder [20h] (R38, R88). -/
def State.answerReadFeeder (pl : List Byte) (s : State) : Answer :=
  withArg 1 pl (feederArg pl) s fun k => s.ok (.feeder (s.feederView k))

/-- Close Feeder [21h] (R84). -/
def State.answerCloseFeeder (pl : List Byte) (s : State) : Answer :=
  withArg 1 pl (feederArg pl) s fun k =>
    if s.mayClose k then (s.closeAccepted k).acceptedWith .empty else s.refuse (.feederState s.feeder[k].state)

/-- Open Feeder [22h] (R85). -/
def State.answerOpenFeeder (pl : List Byte) (s : State) : Answer :=
  withArg 1 pl (feederArg pl) s fun k =>
    match s.openRequest k with
    | some t => t.ok .empty
    | none => s.refuse (.feederState s.feeder[k].state)

/-- Reset Feeder [23h] (R86). -/
def State.answerResetFeeder (pl : List Byte) (s : State) : Answer :=
  withArg 1 pl (feederArg pl) s fun k =>
    if s.mayReset k then (s.resetAccepted k).ok .empty
    else s.refuse (.feederLock s.feeder[k].state s.feeder[k].lockCause)

/-- Block Feeder [24h] (R87). -/
def State.answerBlockFeeder (pl : List Byte) (s : State) : Answer :=
  withArg 1 pl (feederArg pl) s fun k =>
    match s.blockRequest k with
    | some t => t.ok .empty
    | none => s.refuse (.feederState s.feeder[k].state)

/-- Unblock Feeder [25h] (R87). -/
def State.answerUnblockFeeder (pl : List Byte) (s : State) : Answer :=
  withArg 1 pl (feederArg pl) s fun k =>
    if s.mayUnblock k then (s.enterOpen k).ok .empty else s.refuse (.feederState s.feeder[k].state)

-- ===================================================================== groups (chapter 6)

/-- What Read Groups returns of a group (R133); thyristors are counted from 1 there. -/
def State.groupView (s : State) (g : Fin 2) : GroupView :=
  let r := s.group[g]
  let y := s.sync[g]
  { state := r.state, alpha := r.alpha, next := r.next.val + 1, currentLimit := r.currentLimit
    phasedBack := r.phasedBack, causes := s.presentCauses g, blockCause := r.blockCause
    lockRestarts := r.lockRestarts, ocRun := r.ocRun, delay := r.delay, historyAges := s.ages r.history
    last := r.last, locked := y.locked, period := y.period, good := y.good, bad := y.bad
    permitted := s.firingPermitted g }

/-- Read Groups [30h] (R133). -/
def State.answerReadGroups (pl : List Byte) (s : State) : Answer :=
  withLength 0 pl s
    (s.ok (.groups (s.groupView 0) (s.groupView 1) s.uset s.station.uset s.availableGroups s.runningGroups))

/-- Enable Group [31h] (R129). -/
def State.answerEnableGroup (pl : List Byte) (s : State) : Answer :=
  withArg 1 pl (groupArg pl) s fun g =>
    if s.sts.mode ≠ .start ∧ s.group[g].state = .disabled then (s.enableTaken g).ok .empty
    else s.refuse (.groupState s.group[g].state)

/-- Disable Group [32h] (R130). -/
def State.answerDisableGroup (pl : List Byte) (s : State) : Answer :=
  withArg 1 pl (groupArg pl) s fun g =>
    if s.sts.mode = .start then s.refuse (.groupState s.group[g].state) else (s.disableTaken g).ok .empty

/-- Reset Group [33h] (R131). -/
def State.answerResetGroup (pl : List Byte) (s : State) : Answer :=
  withArg 1 pl (groupArg pl) s fun g =>
    if s.sts.mode ≠ .start ∧ s.group[g].state = .locked then (s.resetTaken g).ok .empty
    else s.refuse (.groupState s.group[g].state)

/-- The applied value of Set Voltage: clamped to 600..900 (R132). -/
def voltageApplied (v : Nat) : Nat := max 600 (min 900 v)

/-- Set Voltage [34h] (R132). -/
def State.answerSetVoltage (pl : List Byte) (s : State) : Answer :=
  withLength 2 pl s
    (if s.sts.mode = .start then s.refuse (.mode s.sts.mode)
     else ({ s with uset := voltageApplied (field pl 0 2) } : State).ok (.voltage (voltageApplied (field pl 0 2))))

-- ===================================================================== sections and links (chapters 3 and 5)

/-- What Read Sections returns of a section (R56). -/
def State.sectionView (s : State) (k : Fin 6) : SectionView :=
  let c := s.sec[k]
  { cfg := s.cfg.sections[k], double := c.double, active := c.active, itOut := c.itOut, itTelegram := c.itTelegram
    itTerminal := c.itTerminal, itIn := c.itIn, summary := c.summary, porigin := c.porigin, role := c.role }

/-- What Read Sections returns of a partner entry (R56). -/
def State.partnerView (s : State) (j : Fin 4) : PartnerView :=
  { cfg := s.cfg.partners[j], up := s.link[j].up, lastSeq := s.link[j].lastSeq, mode := s.link[j].mode
    groups := s.link[j].groups }

/-- Read Sections [40h] (R56). -/
def State.answerReadSections (pl : List Byte) (s : State) : Answer :=
  withLength 0 pl s (s.ok (.sections (feeders6.map s.sectionView) (partners4.map s.partnerView)))

/-- Read Link [41h]: the cause flags are cleared as the reply is formed (R105). -/
def State.answerReadLink (pl : List Byte) (s : State) : Answer :=
  withArg 1 pl (portArg pl) s fun p => (s.setPort p (s.port p).clearFlags).ok (.link (s.linkView p))

/-- Start Link Test on a port and duration in range (R107). -/
def State.startTestRequest (p : Port) (seconds : Nat) (s : State) : Answer :=
  if !s.sts.complete ∨ (s.port p).disabled ∨ (s.port p).state = .testing then s.refuse .empty
  else
    match s.testBlocker p with
    | some k => s.refuse (.feederNamed k s.feeder[k].state)
    | none => (s.startTestOn p seconds).ok .empty

/-- Start Link Test [42h] (R107). -/
def State.answerStartLinkTest (pl : List Byte) (s : State) : Answer :=
  withArg 3 pl (portArg pl) s fun p =>
    if inRange 1 600 (field pl 1 2) then s.startTestRequest p (field pl 1 2) else s.badArgument 1

/-- Stop Link Test [43h] (R110). -/
def State.answerStopLinkTest (pl : List Byte) (s : State) : Answer :=
  withArg 1 pl (portArg pl) s fun p =>
    if (s.port p).state = .testing then (s.endTest p).ok .empty else s.refuse .empty

-- ===================================================================== settings (chapter 11)

/-- The reply that carries a live record (R206). -/
def State.settingReply (s : State) (kind idx : Byte) (id : RecId) : Payload := .setting kind idx (s.cfg.encode id)

/-- The record that a request's kind and index name: BAD_ARGUMENT with offset 0 or 1 otherwise (R206). -/
def State.withRecord (kind idx : Byte) (s : State) (f : RecId → Answer) : Answer :=
  match recordLength kind.toNat, RecId.ofCodes kind.toNat idx.toNat with
  | none, _ => s.badArgument 0
  | some _, none => s.badArgument 1
  | some _, some id => f id

/-- Read Setting [50h] (R206). -/
def State.answerReadSetting (pl : List Byte) (s : State) : Answer :=
  match pl with
  | [kind, idx] => s.withRecord kind idx fun id => s.ok (s.settingReply kind idx id)
  | _ => s.badLength

/-- Write Setting on a record named (R206). -/
def State.writeRequest (kind idx : Byte) (record : List Byte) (id : RecId) (s : State) : Answer :=
  if s.sst.activity ≠ .idle then s.busyWith (.setting kind idx [])
  else
    match s.cfg.badOffset record id with
    | some off => s.badSetting off
    | none =>
      match s.writeRestriction id with
      | some p => s.refuse p
      | none => (s.writeRecord id record).ok ((s.writeRecord id record).settingReply kind idx id)

/-- Write Setting [51h] (R200, R206). -/
def State.answerWriteSetting (pl : List Byte) (s : State) : Answer :=
  if writeLengthOk pl then
    match pl with
    | kind :: idx :: record => s.withRecord kind idx fun id => s.writeRequest kind idx record id
    | _ => s.badArgument 0
  else s.badLength

/-- Store Settings [52h] (R208); the store's own BUSY is told apart from the port's by its payload (R198). -/
def State.answerStoreSettings (pl : List Byte) (s : State) : Answer :=
  withLength 0 pl s (if s.sst.activity ≠ .idle then s.busyWith .storeBusy else s.storeTaken.acceptedWith .empty)

/-- Load Defaults [53h] (R209). -/
def State.answerLoadDefaults (pl : List Byte) (s : State) : Answer :=
  withLength 0 pl s
    (if s.sst.activity ≠ .idle then s.busyWith .storeBusy
     else if s.sts.mode = .standby then s.defaultsTaken.ok .empty
     else s.refuse (.mode s.sts.mode))

-- ===================================================================== events (chapter 9)

/-- Count Events [60h] (R176). -/
def State.answerCountEvents (pl : List Byte) (s : State) : Answer :=
  withLength 0 pl s
    (s.ok (.count s.events.length (match s.events with | [] => false | e :: _ => e.overflow)))

/-- Take Events [61h] (R176). -/
def State.answerTakeEvents (pl : List Byte) (s : State) : Answer :=
  withLength 1 pl s
    (if inRange 1 8 (byteAt pl 0) then
      ({ s with events := s.events.drop (byteAt pl 0) } : State).ok (.events (s.events.take (byteAt pl 0)))
     else s.badArgument 0)

-- ===================================================================== captures (chapter 9)

/-- Read Capture Status [70h] (R192). -/
def State.answerReadCaptureStatus (pl : List Byte) (s : State) : Answer :=
  withLength 0 pl s
    (s.ok (.captureStatus s.cap.enabled s.cap.toggle s.cap.missed s.cap.active s.cfg.capture s.cap.x.view s.cap.y.view))

/-- Read Capture on a buffer, first frame and count in range (R190). -/
def State.readCaptureRequest (b : BufId) (first count : Nat) (s : State) : Answer :=
  let r := s.cap.buf b
  if r.state ≠ .full then s.refuse .empty
  else if r.length ≤ first then s.badArgument 1
  else s.ok (.frames b first (r.read first count))

/-- Read Capture [71h] (R190, R202). -/
def State.answerReadCapture (pl : List Byte) (s : State) : Answer :=
  withArg 4 pl (bufferArg pl) s fun b =>
    if !inRange 0 4095 (field pl 1 2) then s.badArgument 1
    else if !inRange 1 32 (byteAt pl 3) then s.badArgument 3
    else s.readCaptureRequest b (field pl 1 2) (byteAt pl 3)

/-- Release Capture [72h] (R191). -/
def State.answerReleaseCapture (pl : List Byte) (s : State) : Answer :=
  withArg 1 pl (bufferArg pl) s fun b =>
    if (s.cap.buf b).state = .full then (s.releaseTaken b).ok .empty else s.refuse .empty

/-- Stop Capture [73h] (R188). -/
def State.answerStopCapture (pl : List Byte) (s : State) : Answer :=
  withLength 0 pl s
    (match s.cap.live with
     | some b => (s.stopLive b).ok .empty
     | none => s.refuse .empty)

/-- Trigger Capture [74h] (R192). -/
def State.answerTriggerCapture (pl : List Byte) (s : State) : Answer :=
  withLength 0 pl s ((s.trigger srcManual).1.ok (.answer (s.trigger srcManual).2))

/-- Enable Capture [75h] (R189). -/
def State.answerEnableCapture (pl : List Byte) (s : State) : Answer :=
  withLength 0 pl s (s.enableCaptureTaken.ok .empty)

/-- Disable Capture [76h] (R189). -/
def State.answerDisableCapture (pl : List Byte) (s : State) : Answer :=
  withLength 0 pl s (s.disableCaptureTaken.ok .empty)

-- ===================================================================== terminals (chapter 8)

/-- Read Terminals [80h]: the change causes are cleared as the reply is formed (R161, R170). -/
def State.answerReadTerminals (pl : List Byte) (s : State) : Answer :=
  withLength 0 pl s
    (s.clearChanges.ok (.terminals (terminals16.map s.termView) (feeders6.map s.bfbClosed) s.alarm))

/-- Set Output on a terminal and level in range (R165). -/
def State.setOutputRequest (t : Fin 16) (level : Bool) (s : State) : Answer :=
  if s.maySetOutput t then (s.setTerm t { s.term[t] with out := level }).ok .empty
  else s.refuse (.terminalCfg s.term[t].cfg.mode s.term[t].cfg.fn)

/-- Set Output [81h] (R165). -/
def State.answerSetOutput (pl : List Byte) (s : State) : Answer :=
  withArg 2 pl (terminalArg pl) s fun t =>
    match levelArg pl with
    | some level => s.setOutputRequest t level
    | none => s.badArgument 1

-- ===================================================================== the catalogue (R200)

/-- Judges a request by its kind: a kind outside the catalogue is answered UNKNOWN_KIND (R200). -/
def State.judge (kind : Byte) (pl : List Byte) (s : State) : Answer :=
  match kind.toNat with
  | 0x01 => s.answerReadStationStatus pl
  | 0x02 => s.answerRunStation pl
  | 0x03 => s.answerStandbyStation pl
  | 0x04 => s.answerResumeStation pl
  | 0x05 => s.answerSetTime pl
  | 0x06 => s.answerRestart pl
  | 0x07 => s.answerResetRail pl
  | 0x10 => s.answerReadMeasurements pl
  | 0x11 => s.answerReadEnergy pl
  | 0x20 => s.answerReadFeeder pl
  | 0x21 => s.answerCloseFeeder pl
  | 0x22 => s.answerOpenFeeder pl
  | 0x23 => s.answerResetFeeder pl
  | 0x24 => s.answerBlockFeeder pl
  | 0x25 => s.answerUnblockFeeder pl
  | 0x30 => s.answerReadGroups pl
  | 0x31 => s.answerEnableGroup pl
  | 0x32 => s.answerDisableGroup pl
  | 0x33 => s.answerResetGroup pl
  | 0x34 => s.answerSetVoltage pl
  | 0x40 => s.answerReadSections pl
  | 0x41 => s.answerReadLink pl
  | 0x42 => s.answerStartLinkTest pl
  | 0x43 => s.answerStopLinkTest pl
  | 0x50 => s.answerReadSetting pl
  | 0x51 => s.answerWriteSetting pl
  | 0x52 => s.answerStoreSettings pl
  | 0x53 => s.answerLoadDefaults pl
  | 0x60 => s.answerCountEvents pl
  | 0x61 => s.answerTakeEvents pl
  | 0x70 => s.answerReadCaptureStatus pl
  | 0x71 => s.answerReadCapture pl
  | 0x72 => s.answerReleaseCapture pl
  | 0x73 => s.answerStopCapture pl
  | 0x74 => s.answerTriggerCapture pl
  | 0x75 => s.answerEnableCapture pl
  | 0x76 => s.answerDisableCapture pl
  | 0x80 => s.answerReadTerminals pl
  | 0x81 => s.answerSetOutput pl
  | _ => s.unknownKind

end Sys2Proof.Machine
end

