-- ==== Sys2Proof/WellFormed.lean ====
section
/-! DEFINITION. Which commands can be sent at all: the bounds the framing of the control message port sets (R194..R196).
Nothing else of a command is bounded: a length or an argument out of range is answered, not ill-formed. -/
namespace Sys2Proof

/-- The request kinds of the catalogue (chapter 10, section 10.8). -/
def catalogue : List Byte :=
  [0x01, 0x02, 0x03, 0x04, 0x05, 0x06, 0x07, 0x10, 0x11, 0x20, 0x21, 0x22, 0x23, 0x24, 0x25, 0x30, 0x31, 0x32, 0x33,
   0x34, 0x40, 0x41, 0x42, 0x43, 0x50, 0x51, 0x52, 0x53, 0x60, 0x61, 0x70, 0x71, 0x72, 0x73, 0x74, 0x75, 0x76, 0x80,
   0x81]

/-- A control frame carries at most 512 payload bytes (R194). -/
def payloadFits (payload : List Byte) : Bool := payload.length ≤ 512

/-- A command that can be sent. -/
def Instr.wellFormed : Instr → Bool
  | .powerOn _ => true
  | .resetPin _ => true
  | .frameTrigger _ => true
  | .conversionComplete _ _ => true
  | .channelFail _ => true
  | .channelRestored _ => true
  | .clockWindowEnd _ => true
  | .clockFail => true
  | .clockGood => true
  | .sotfWindowEnd _ => true
  | .bfbRawChange _ _ => true
  | .bfbFilterExpiry _ => true
  | .closeTimerExpiry _ => true
  | .openTimerExpiry _ => true
  | .deadTimeExpiry _ => true
  | .reclaimExpiry _ => true
  | .settleExpiry _ => true
  | .lineTestWindowComplete _ => true
  | .retryExpiry _ => true
  | .tWaitExpiry _ => true
  | .liveLine _ => true
  | .closeFeeder _ pl => payloadFits pl
  | .openFeeder _ pl => payloadFits pl
  | .resetFeeder _ pl => payloadFits pl
  | .blockFeeder _ pl => payloadFits pl
  | .unblockFeeder _ pl => payloadFits pl
  | .readFeeder _ pl => payloadFits pl
  | .telegramReceived _ _ _ => true
  | .linkUp _ => true
  | .portSyncLoss _ => true
  | .telegramPeriod => true
  | .transmissionEnd _ => true
  | .partnerTimeout _ => true
  | .testTelegramPeriod _ => true
  | .testEchoTimeout _ => true
  | .linkTestExpiry _ => true
  | .readLink _ pl => payloadFits pl
  | .startLinkTest _ pl => payloadFits pl
  | .stopLinkTest _ pl => payloadFits pl
  | .readSections _ pl => payloadFits pl
  | .syncCrossing _ _ _ => true
  | .crossingTimerExpiry _ => true
  | .syncStateChange _ => true
  | .firingInstant _ _ => true
  | .firingPulseEnd _ => true
  | .overcurrent _ => true
  | .restartDelayExpiry _ => true
  | .restartHistoryAgeing _ => true
  | .enableGroup _ pl => payloadFits pl
  | .disableGroup _ pl => payloadFits pl
  | .resetGroup _ pl => payloadFits pl
  | .setVoltage _ pl => payloadFits pl
  | .readGroups _ pl => payloadFits pl
  | .settingsLoadComplete => true
  | .startComplete => true
  | .frameFault => true
  | .railEarthOperate => true
  | .railHoldExpiry => true
  | .railHistoryAgeing => true
  | .resetRailEarthing _ pl => payloadFits pl
  | .hostSupervisionExpiry => true
  | .readStationStatus _ pl => payloadFits pl
  | .runStation _ pl => payloadFits pl
  | .standbyStation _ pl => payloadFits pl
  | .resumeStation _ pl => payloadFits pl
  | .setTime _ pl => payloadFits pl
  | .restart _ pl => payloadFits pl
  | .throughSourceChange _ _ => true
  | .setOutput _ pl => payloadFits pl
  | .readTerminals _ pl => payloadFits pl
  | .countEvents _ pl => payloadFits pl
  | .takeEvents _ pl => payloadFits pl
  | .averagePeriodComplete => true
  | .readMeasurements _ pl => payloadFits pl
  | .readEnergy _ pl => payloadFits pl
  | .captureComplete => true
  | .readCaptureStatus _ pl => payloadFits pl
  | .readCapture _ pl => payloadFits pl
  | .releaseCapture _ pl => payloadFits pl
  | .stopCapture _ pl => payloadFits pl
  | .triggerCapture _ pl => payloadFits pl
  | .enableCapture _ pl => payloadFits pl
  | .disableCapture _ pl => payloadFits pl
  -- the longest frame is 520 bytes; a discarded frame ends at its CRC at the latest
  | .controlFrameDiscarded cs => cs.length ≤ 520
  -- an UNKNOWN_REQUEST names a kind outside the catalogue (R200)
  | .unknownRequest kind _ pl => !catalogue.contains kind && payloadFits pl
  | .replySent => true
  | .readSetting _ pl => payloadFits pl
  | .writeSetting _ pl => payloadFits pl
  | .storeSettings _ pl => payloadFits pl
  | .storeComplete => true
  | .loadDefaults _ pl => payloadFits pl
  -- a frame abandoned before its end has gathered fewer than 520 bytes
  | .controlFrameAbandoned gathered _ => gathered.length < 520
  | .idleSymbolReceived _ => true

end Sys2Proof
end

