-- ==== Sys2Proof/Machine/Port.lean ====
section
/-! DEFINITION. Chapter 10: the control message port: the receiver (R195, R196), taking a request (R197, R198, R204) and
the end of a reply (R199, R204). -/
namespace Sys2Proof.Machine

open Sys2Proof

-- ===================================================================== taking a request (R197, R198, R204)

/-- Replaces the port record. -/
def State.setCmp (c : Cmp) (s : State) : State := { s with cmp := c }

/-- The reply kind of a request kind (R197). -/
def replyKind (kind : Byte) : Byte := kind + 0x80

/-- Makes an answer the reply in progress (R197). -/
def Answer.begin (a : Answer) (kind tag : Byte) : State :=
  a.state.setCmp { a.state.cmp with
    reply := some { kind := replyKind kind, tag := tag, status := a.status, payload := a.payload } }

/-- A request received whole: it counts for supervision; it is discarded while a Restart's reply is sent, refused BUSY
or discarded while another reply is sent, and taken otherwise (R152, R197, R198, R204). -/
def State.takeRequest (kind tag : Byte) (answer : State → Answer) (s : State) : State :=
  let s := s.hostHeard
  if s.cmp.restartPending then s
  else
    match s.cmp.reply, s.cmp.busy with
    | none, _ => (answer s).begin kind tag
    | some _, none => s.setCmp { s.cmp with busy := some (kind, tag) }
    | some _, some _ => s

/-- A request command: its frame leaves the receiver HUNTING. A payload that no frame can carry has a bad length field,
and is discarded (R196). -/
def State.request (kind tag : Byte) (pl : List Byte) (answer : State → Answer) (s : State) : State :=
  let s := s.setCmp { s.cmp with receiving := false, rx := [] }
  if payloadFits pl then s.takeRequest kind tag answer else s

-- ===================================================================== the receiver (R195, R196)

/-- The number of characters of a frame whose length field has been received. -/
def frameLength (rx : List Byte) : Nat := 5 + field rx 1 2

/-- The CRC-16 of a whole frame checks (R196). -/
def frameChecks (rx : List Byte) : Bool :=
  let body := (rx.drop 1).take (rx.length - 3)
  beNat (rx.drop (rx.length - 2)) == (crc16 body).toNat

/-- The request a good frame carries: kind, tag, payload (R194). -/
def frameRequest (rx : List Byte) : Option (Byte × Byte × List Byte) :=
  match rx.drop 3 with
  | kind :: tag :: _ :: rest => some (kind, tag, rest.take (rest.length - 2))
  | _ => none

/-- The receiver discards what it has gathered and hunts. -/
def State.hunt (s : State) : State := s.setCmp { s.cmp with receiving := false, rx := [] }

/-- The end of a frame: a frame that checks is a request received whole, any other is discarded (R196). -/
def State.frameEnd (rx : List Byte) (s : State) : State :=
  let s := s.hunt
  if frameChecks rx then
    match frameRequest rx with
    | some (kind, tag, pl) => s.takeRequest kind tag (fun s => s.judge kind pl)
    | none => s
  else s

/-- The receiver takes one character (R195, R196). -/
def State.character (c : Byte) (s : State) : State :=
  if !s.cmp.receiving then
    if c = 0xA5 then s.setCmp { s.cmp with receiving := true, rx := [c] } else s
  else
    let rx := s.cmp.rx ++ [c]
    if rx.length < 3 then s.setCmp { s.cmp with rx := rx }
    else if !inRange 3 515 (field rx 1 2) then s.hunt
    else if rx.length < frameLength rx then s.setCmp { s.cmp with rx := rx }
    else s.frameEnd rx

/-- The receiver takes characters one after another. -/
def State.characters : List Byte → State → State
  | [], s => s
  | c :: rest, s => characters rest (s.character c)

/-- A frame is abandoned (R195): a late character begins the new hunt, one without its stop bit is discarded. -/
def State.abandon (how : Abandon) (s : State) : State :=
  match how with
  | .lateCharacter c => s.hunt.character c
  | .missingStopBit => s.hunt

-- ===================================================================== the end of a reply (R199, R204)

/-- The last character of the reply in progress has been sent. -/
def State.replyDone (s : State) : State :=
  match s.cmp.reply with
  | none => s
  | some _ =>
    if s.cmp.restartPending then s.afterReset .restartRequest s.straps
    else
      match s.cmp.busy with
      | none => s.setCmp { s.cmp with reply := none }
      | some (kind, tag) =>
        s.setCmp { s.cmp with
          reply := some { kind := replyKind kind, tag := tag, status := .busy, payload := .empty }, busy := none }

end Sys2Proof.Machine
end

