-- ==== Sys2Proof/Machine/AcquisitionCommands.lean ====
section
/-! DEFINITION. Chapter 1: the commands of the acquisition unit and the discriminators. A command from outside first lets every internal
step that is due happen (log 2); a step the part raises of itself is taken where it is due. -/
namespace Sys2Proof.Machine

open Sys2Proof

/-- FRAME_TRIGGER (R1): the frame in progress ends, its record is published and taken by every consumer; lines are
the levels of T1..T16 at the trigger. -/
def execFrameTrigger (lines : BitVec 16) (s : State) : Host.Outcome State Fault Refusal :=
  .next (s.settle.frame lines)

/-- CONVERSION_COMPLETE (R2, R3, R4): the result of the conversion of one channel for a frame, in thousandths of its
unit. -/
def execConversionComplete (ch : Fin 17) (result : Conversion) (s : State) : Host.Outcome State Fault Refusal :=
  .next (s.settle.conversionDone ch result.frame result.milli)

/-- CHANNEL_FAIL (R8, R11): taken where the stale run of the channel has reached 4. -/
def execChannelFail (ch : Fin 17) (s : State) : Host.Outcome State Fault Refusal :=
  .next (s.channelFailTaken ch)

/-- CHANNEL_RESTORED (R10, R11): taken where the good run of the FAILED channel has reached 64. -/
def execChannelRestored (ch : Fin 17) (s : State) : Host.Outcome State Fault Refusal :=
  .next (s.channelRestoredTaken ch)

/-- CLOCK_WINDOW_END (R12, R13, R15, R16): a measurement window ends with its count of main-oscillator periods, and
with the strap levels of that moment (R138). -/
def execClockWindowEnd (window : Window) (s : State) : Host.Outcome State Fault Refusal :=
  .next (s.settle.window window)

/-- CLOCK_FAIL (R14, R16): taken where the windows judged have condemned the clock. -/
def execClockFail (s : State) : Host.Outcome State Fault Refusal :=
  .next (s.clockFailTaken)

/-- CLOCK_GOOD (R15, R16, R138): taken where 1000 in-tolerance windows have been counted. -/
def execClockGood (s : State) : Host.Outcome State Fault Refusal :=
  .next (s.clockGoodTaken)

/-- SOTF_WINDOW_END (R33): taken where the close-onto-fault window has counted down to 0. -/
def execSotfWindowEnd (k : Fin 6) (s : State) : Host.Outcome State Fault Refusal :=
  .next (s.sotfTaken k)

end Sys2Proof.Machine
end

