-- ==== Sys2Proof/Machine/FeederCommands.lean ====
section
/-! DEFINITION. Chapters 2, 4 and 8: the commands of the breaker feedback, the feeder sequences and the feeder requests. A command from outside first lets every internal
step that is due happen (log 2); a step the part raises of itself is taken where it is due. -/
namespace Sys2Proof.Machine

open Sys2Proof

/-- BFB_RAW_CHANGE (R158): the raw level of a breaker feedback input changes. -/
def execBfbRawChange (k : Fin 6) (level : Bool) (s : State) : Host.Outcome State Fault Refusal :=
  let s := s.settle
  .next (s.setBfb k (s.bfb[k].rawChange level))

/-- BFB_FILTER_EXPIRY (R158): a changed raw level has held for 1 ms. -/
def execBfbFilterExpiry (k : Fin 6) (s : State) : Host.Outcome State Fault Refusal :=
  .next (s.settle.bfbExpiry k)

/-- CLOSE_TIMER_EXPIRY (R61): T_CLOSE_MAX expires. -/
def execCloseTimerExpiry (k : Fin 6) (s : State) : Host.Outcome State Fault Refusal :=
  .next (s.settle.closeExpiry k)

/-- OPEN_TIMER_EXPIRY (R65): T_OPEN_MAX expires. -/
def execOpenTimerExpiry (k : Fin 6) (s : State) : Host.Outcome State Fault Refusal :=
  .next (s.settle.openExpiry k)

/-- DEAD_TIME_EXPIRY (R72): the dead time expires. -/
def execDeadTimeExpiry (k : Fin 6) (s : State) : Host.Outcome State Fault Refusal :=
  .next (s.settle.deadExpiry k)

/-- RECLAIM_EXPIRY (R74): the reclaim time expires. -/
def execReclaimExpiry (k : Fin 6) (s : State) : Host.Outcome State Fault Refusal :=
  .next (s.settle.reclaimDone k)

/-- SETTLE_EXPIRY (R75): T_LT_SETTLE expires. -/
def execSettleExpiry (k : Fin 6) (s : State) : Host.Outcome State Fault Refusal :=
  .next (s.settle.settleDone k)

/-- LINE_TEST_WINDOW_COMPLETE (R76, R77): taken where the window count has reached 64. -/
def execLineTestWindowComplete (k : Fin 6) (s : State) : Host.Outcome State Fault Refusal :=
  .next (s.testWindowTaken k)

/-- RETRY_EXPIRY (R78): the wait after an INVALID test expires. -/
def execRetryExpiry (k : Fin 6) (s : State) : Host.Outcome State Fault Refusal :=
  .next (s.settle.retryDone k)

/-- T_WAIT_EXPIRY (R80): T_WAIT expires. -/
def execTWaitExpiry (k : Fin 6) (s : State) : Host.Outcome State Fault Refusal :=
  .next (s.settle.waitDone k)

/-- LIVE_LINE (R73, R80): taken where the line of a waiting feeder counts as live. -/
def execLiveLine (k : Fin 6) (s : State) : Host.Outcome State Fault Refusal :=
  .next (s.liveClose k)

/-- CLOSE_FEEDER, Close Feeder [21h] (R84). -/
def execCloseFeeder (tag : Byte) (payload : List Byte) (s : State) : Host.Outcome State Fault Refusal :=
  .next (s.settle.request 0x21 tag payload (State.answerCloseFeeder payload))

/-- OPEN_FEEDER, Open Feeder [22h] (R85). -/
def execOpenFeeder (tag : Byte) (payload : List Byte) (s : State) : Host.Outcome State Fault Refusal :=
  .next (s.settle.request 0x22 tag payload (State.answerOpenFeeder payload))

/-- RESET_FEEDER, Reset Feeder [23h] (R86). -/
def execResetFeeder (tag : Byte) (payload : List Byte) (s : State) : Host.Outcome State Fault Refusal :=
  .next (s.settle.request 0x23 tag payload (State.answerResetFeeder payload))

/-- BLOCK_FEEDER, Block Feeder [24h] (R87). -/
def execBlockFeeder (tag : Byte) (payload : List Byte) (s : State) : Host.Outcome State Fault Refusal :=
  .next (s.settle.request 0x24 tag payload (State.answerBlockFeeder payload))

/-- UNBLOCK_FEEDER, Unblock Feeder [25h] (R87). -/
def execUnblockFeeder (tag : Byte) (payload : List Byte) (s : State) : Host.Outcome State Fault Refusal :=
  .next (s.settle.request 0x25 tag payload (State.answerUnblockFeeder payload))

/-- READ_FEEDER, Read Feeder [20h] (R38, R88). -/
def execReadFeeder (tag : Byte) (payload : List Byte) (s : State) : Host.Outcome State Fault Refusal :=
  .next (s.settle.request 0x20 tag payload (State.answerReadFeeder payload))

end Sys2Proof.Machine
end

