-- ==== Sys2Proof/Machine/LinkCommands.lean ====
section
/-! DEFINITION. Chapters 3 and 5: the commands of the neighbour links and the sections. A command from outside first lets every internal
step that is due happen (log 2); a step the part raises of itself is taken where it is due. -/
namespace Sys2Proof.Machine

open Sys2Proof

/-- TELEGRAM_RECEIVED (R91, R93, R98): a telegram framed on a port, from its start to its end symbol. -/
def execTelegramReceived (p : Port) (bytes : List Byte) (symbolError : Bool) (s : State) : Host.Outcome State Fault Refusal :=
  .next (s.settle.receive p bytes symbolError)

/-- LINK_UP (R100): taken where the up-count of a DOWN link has reached 3. -/
def execLinkUp (j : Fin 4) (s : State) : Host.Outcome State Fault Refusal :=
  .next (s.linkUpTaken j)

/-- PORT_SYNC_LOSS (R92): eight undecodable telegrams, or 20 ms of silence. -/
def execPortSyncLoss (p : Port) (s : State) : Host.Outcome State Fault Refusal :=
  if s.syncLossDue p then .next (s.syncLoss p) else .next (s.settle.syncLoss p)

/-- TELEGRAM_PERIOD (R95): 5 ms have passed, and a STATUS telegram is built for each partner. -/
def execTelegramPeriod (s : State) : Host.Outcome State Fault Refusal :=
  .next (s.settle.telegramPeriodTaken)

/-- TRANSMISSION_END (R96): the telegram in transmission has been sent. -/
def execTransmissionEnd (p : Port) (s : State) : Host.Outcome State Fault Refusal :=
  .next (s.settle.transmissionDone p)

/-- PARTNER_TIMEOUT (R101): 20 ms without an accepted telegram. -/
def execPartnerTimeout (j : Fin 4) (s : State) : Host.Outcome State Fault Refusal :=
  .next (s.settle.partnerExpiry j)

/-- TEST_TELEGRAM_PERIOD (R108): 5 ms have passed on a port in TESTING. -/
def execTestTelegramPeriod (p : Port) (s : State) : Host.Outcome State Fault Refusal :=
  .next (s.settle.sendTest p)

/-- TEST_ECHO_TIMEOUT (R109): the oldest outstanding entry is 20 ms old. -/
def execTestEchoTimeout (p : Port) (s : State) : Host.Outcome State Fault Refusal :=
  .next (s.settle.echoMissing p)

/-- LINK_TEST_EXPIRY (R110): the remaining time of a link test runs out. -/
def execLinkTestExpiry (p : Port) (s : State) : Host.Outcome State Fault Refusal :=
  .next (s.settle.testExpiry p)

/-- READ_LINK, Read Link [41h] (R105). -/
def execReadLink (tag : Byte) (payload : List Byte) (s : State) : Host.Outcome State Fault Refusal :=
  .next (s.settle.request 0x41 tag payload (State.answerReadLink payload))

/-- START_LINK_TEST, Start Link Test [42h] (R107). -/
def execStartLinkTest (tag : Byte) (payload : List Byte) (s : State) : Host.Outcome State Fault Refusal :=
  .next (s.settle.request 0x42 tag payload (State.answerStartLinkTest payload))

/-- STOP_LINK_TEST, Stop Link Test [43h] (R110). -/
def execStopLinkTest (tag : Byte) (payload : List Byte) (s : State) : Host.Outcome State Fault Refusal :=
  .next (s.settle.request 0x43 tag payload (State.answerStopLinkTest payload))

/-- READ_SECTIONS, Read Sections [40h] (R56). -/
def execReadSections (tag : Byte) (payload : List Byte) (s : State) : Host.Outcome State Fault Refusal :=
  .next (s.settle.request 0x40 tag payload (State.answerReadSections payload))

/-- IDLE_SYMBOL_RECEIVED (R91): a valid idle symbol sets the silence time to 0. -/
def execIdleSymbolReceived (p : Port) (s : State) : Host.Outcome State Fault Refusal :=
  .next (s.settle.idleSymbol p)

end Sys2Proof.Machine
end

