-- ==== Sys2Proof/Machine/PortCommands.lean ====
section
/-! DEFINITION. Chapters 10 and 11: the commands of the control message port and the settings store. A command from outside first lets every internal
step that is due happen (log 2); a step the part raises of itself is taken where it is due. -/
namespace Sys2Proof.Machine

open Sys2Proof

/-- CONTROL_FRAME_DISCARDED (R195, R196): characters reach the receiver and end in a frame it discards; a frame
among them that checks is a request received whole (log 22). -/
def execControlFrameDiscarded (chars : List Byte) (s : State) : Host.Outcome State Fault Refusal :=
  .next (s.settle.characters chars)

/-- UNKNOWN_REQUEST (R200): a request whose kind is not in the catalogue. -/
def execUnknownRequest (kind : Byte) (tag : Byte) (payload : List Byte) (s : State) : Host.Outcome State Fault Refusal :=
  .next (s.settle.request kind tag payload (State.judge kind payload))

/-- REPLY_SENT (R199, R204): the last character of the reply in progress has been sent. -/
def execReplySent (s : State) : Host.Outcome State Fault Refusal :=
  .next (s.settle.replyDone)

/-- READ_SETTING, Read Setting [50h] (R206). -/
def execReadSetting (tag : Byte) (payload : List Byte) (s : State) : Host.Outcome State Fault Refusal :=
  .next (s.settle.request 0x50 tag payload (State.answerReadSetting payload))

/-- WRITE_SETTING, Write Setting [51h] (R206). -/
def execWriteSetting (tag : Byte) (payload : List Byte) (s : State) : Host.Outcome State Fault Refusal :=
  .next (s.settle.request 0x51 tag payload (State.answerWriteSetting payload))

/-- STORE_SETTINGS, Store Settings [52h] (R208). -/
def execStoreSettings (tag : Byte) (payload : List Byte) (s : State) : Host.Outcome State Fault Refusal :=
  .next (s.settle.request 0x52 tag payload (State.answerStoreSettings payload))

/-- STORE_COMPLETE (R208): the CRC-32 of the image has been written. -/
def execStoreComplete (s : State) : Host.Outcome State Fault Refusal :=
  .next (s.settle.storeDone)

/-- LOAD_DEFAULTS, Load Defaults [53h] (R209). -/
def execLoadDefaults (tag : Byte) (payload : List Byte) (s : State) : Host.Outcome State Fault Refusal :=
  .next (s.settle.request 0x53 tag payload (State.answerLoadDefaults payload))

/-- CONTROL_FRAME_ABANDONED (R195): the receiver gathers characters and abandons the frame. -/
def execControlFrameAbandoned (gathered : List Byte) (how : Abandon) (s : State) : Host.Outcome State Fault Refusal :=
  .next ((s.settle.characters gathered).abandon how)

end Sys2Proof.Machine
end

