-- ==== Sys2Proof/Machine/RecordCommands.lean ====
section
/-! DEFINITION. Chapter 9: the commands of the event queue, the measurements and the captures. A command from outside first lets every internal
step that is due happen (log 2); a step the part raises of itself is taken where it is due. -/
namespace Sys2Proof.Machine

open Sys2Proof

/-- COUNT_EVENTS, Count Events [60h] (R176). -/
def execCountEvents (tag : Byte) (payload : List Byte) (s : State) : Host.Outcome State Fault Refusal :=
  .next (s.settle.request 0x60 tag payload (State.answerCountEvents payload))

/-- TAKE_EVENTS, Take Events [61h] (R176). -/
def execTakeEvents (tag : Byte) (payload : List Byte) (s : State) : Host.Outcome State Fault Refusal :=
  .next (s.settle.request 0x61 tag payload (State.answerTakeEvents payload))

/-- AVERAGE_PERIOD_COMPLETE (R179): taken where 4000 records have been averaged. -/
def execAveragePeriodComplete (s : State) : Host.Outcome State Fault Refusal :=
  .next (s.averageTaken)

/-- READ_MEASUREMENTS, Read Measurements [10h] (R180). -/
def execReadMeasurements (tag : Byte) (payload : List Byte) (s : State) : Host.Outcome State Fault Refusal :=
  .next (s.settle.request 0x10 tag payload (State.answerReadMeasurements payload))

/-- READ_ENERGY, Read Energy [11h] (R182). -/
def execReadEnergy (tag : Byte) (payload : List Byte) (s : State) : Host.Outcome State Fault Refusal :=
  .next (s.settle.request 0x11 tag payload (State.answerReadEnergy payload))

/-- CAPTURE_COMPLETE (R187): taken where the record in progress is complete. -/
def execCaptureComplete (s : State) : Host.Outcome State Fault Refusal :=
  .next (s.captureTaken)

/-- READ_CAPTURE_STATUS, Read Capture Status [70h] (R192). -/
def execReadCaptureStatus (tag : Byte) (payload : List Byte) (s : State) : Host.Outcome State Fault Refusal :=
  .next (s.settle.request 0x70 tag payload (State.answerReadCaptureStatus payload))

/-- READ_CAPTURE, Read Capture [71h] (R190, R202). -/
def execReadCapture (tag : Byte) (payload : List Byte) (s : State) : Host.Outcome State Fault Refusal :=
  .next (s.settle.request 0x71 tag payload (State.answerReadCapture payload))

/-- RELEASE_CAPTURE, Release Capture [72h] (R191). -/
def execReleaseCapture (tag : Byte) (payload : List Byte) (s : State) : Host.Outcome State Fault Refusal :=
  .next (s.settle.request 0x72 tag payload (State.answerReleaseCapture payload))

/-- STOP_CAPTURE, Stop Capture [73h] (R188). -/
def execStopCapture (tag : Byte) (payload : List Byte) (s : State) : Host.Outcome State Fault Refusal :=
  .next (s.settle.request 0x73 tag payload (State.answerStopCapture payload))

/-- TRIGGER_CAPTURE, Trigger Capture [74h] (R192). -/
def execTriggerCapture (tag : Byte) (payload : List Byte) (s : State) : Host.Outcome State Fault Refusal :=
  .next (s.settle.request 0x74 tag payload (State.answerTriggerCapture payload))

/-- ENABLE_CAPTURE, Enable Capture [75h] (R189). -/
def execEnableCapture (tag : Byte) (payload : List Byte) (s : State) : Host.Outcome State Fault Refusal :=
  .next (s.settle.request 0x75 tag payload (State.answerEnableCapture payload))

/-- DISABLE_CAPTURE, Disable Capture [76h] (R189). -/
def execDisableCapture (tag : Byte) (payload : List Byte) (s : State) : Host.Outcome State Fault Refusal :=
  .next (s.settle.request 0x76 tag payload (State.answerDisableCapture payload))

end Sys2Proof.Machine
end

