-- ==== Sys2Proof/Machine/RectifierCommands.lean ====
section
/-! DEFINITION. Chapter 6: the commands of the rectifier groups. A command from outside first lets every internal
step that is due happen (log 2); a step the part raises of itself is taken where it is due. -/
namespace Sys2Proof.Machine

open Sys2Proof

/-- SYNC_CROSSING (R113, R114): a rising zero crossing on a sync input, at a time in µs. -/
def execSyncCrossing (g : Fin 2) (phase : Phase) (time : Nat) (s : State) : Host.Outcome State Fault Refusal :=
  .next (s.settle.crossing g phase time)

/-- CROSSING_TIMER_EXPIRY (R113, R114): 40 ms without a crossing of phase A. -/
def execCrossingTimerExpiry (g : Fin 2) (s : State) : Host.Outcome State Fault Refusal :=
  .next (s.settle.crossingExpiry g)

/-- SYNC_STATE_CHANGE (R114): taken where the cycles counted have made or broken the lock. -/
def execSyncStateChange (g : Fin 2) (s : State) : Host.Outcome State Fault Refusal :=
  .next (s.syncChange g)

/-- FIRING_INSTANT (R115, R116, R117): a pulse, a regulator update, the next thyristor. -/
def execFiringInstant (g : Fin 2) (m : Fin 6) (s : State) : Host.Outcome State Fault Refusal :=
  .next (s.settle.fire g m)

/-- FIRING_PULSE_END (R116): the 10° of the pulse are over. -/
def execFiringPulseEnd (g : Fin 2) (s : State) : Host.Outcome State Fault Refusal :=
  .next (s.settle.pulseEnd g)

/-- OVERCURRENT (R124): taken where the overcurrent run has reached 2. -/
def execOvercurrent (g : Fin 2) (s : State) : Host.Outcome State Fault Refusal :=
  .next (s.overcurrentTaken g)

/-- RESTART_DELAY_EXPIRY (R126): the restart delay expires. -/
def execRestartDelayExpiry (g : Fin 2) (s : State) : Host.Outcome State Fault Refusal :=
  .next (s.settle.restartExpiry g)

/-- RESTART_HISTORY_AGEING (R126): the oldest entry of the history becomes 600 s old. -/
def execRestartHistoryAgeing (g : Fin 2) (s : State) : Host.Outcome State Fault Refusal :=
  .next (s.settle.restartAged g)

/-- ENABLE_GROUP, Enable Group [31h] (R129). -/
def execEnableGroup (tag : Byte) (payload : List Byte) (s : State) : Host.Outcome State Fault Refusal :=
  .next (s.settle.request 0x31 tag payload (State.answerEnableGroup payload))

/-- DISABLE_GROUP, Disable Group [32h] (R130). -/
def execDisableGroup (tag : Byte) (payload : List Byte) (s : State) : Host.Outcome State Fault Refusal :=
  .next (s.settle.request 0x32 tag payload (State.answerDisableGroup payload))

/-- RESET_GROUP, Reset Group [33h] (R131). -/
def execResetGroup (tag : Byte) (payload : List Byte) (s : State) : Host.Outcome State Fault Refusal :=
  .next (s.settle.request 0x33 tag payload (State.answerResetGroup payload))

/-- SET_VOLTAGE, Set Voltage [34h] (R132). -/
def execSetVoltage (tag : Byte) (payload : List Byte) (s : State) : Host.Outcome State Fault Refusal :=
  .next (s.settle.request 0x34 tag payload (State.answerSetVoltage payload))

/-- READ_GROUPS, Read Groups [30h] (R133). -/
def execReadGroups (tag : Byte) (payload : List Byte) (s : State) : Host.Outcome State Fault Refusal :=
  .next (s.settle.request 0x30 tag payload (State.answerReadGroups payload))

end Sys2Proof.Machine
end

