-- ==== Sys2Proof/Machine/StationCommands.lean ====
section
/-! DEFINITION. Chapter 7: the commands of the station supervisor, and the resets. A command from outside first lets every internal
step that is due happen (log 2); a step the part raises of itself is taken where it is due. -/
namespace Sys2Proof.Machine

open Sys2Proof

/-- POWER_ON (R154): the supply has come up; straps are the levels of the address straps. -/
def execPowerOn (straps : Byte) (s : State) : Host.Outcome State Fault Refusal :=
  .next (s.afterReset .powerOn straps)

/-- RESET_PIN (R154): the RESET pin has been asserted and released (log 30). -/
def execResetPin (straps : Byte) (s : State) : Host.Outcome State Fault Refusal :=
  .next (s.afterReset .resetPin straps)

/-- SETTINGS_LOAD_COMPLETE (R210): the load of step 3 of START is complete. -/
def execSettingsLoadComplete (s : State) : Host.Outcome State Fault Refusal :=
  .next (s.settle.loadDone)

/-- START_COMPLETE (R137, R139): taken where record 16 is published and the load complete. -/
def execStartComplete (s : State) : Host.Outcome State Fault Refusal :=
  .next (s.startTaken)

/-- FRAME_FAULT (R147): taken where the frame fault counter has reached T_FE. -/
def execFrameFault (s : State) : Host.Outcome State Fault Refusal :=
  .next (s.frameFaultTaken)

/-- RAIL_EARTH_OPERATE (R148, R150): taken where a stage of the rail potential element operates. -/
def execRailEarthOperate (s : State) : Host.Outcome State Fault Refusal :=
  .next (s.railOperate)

/-- RAIL_HOLD_EXPIRY (R149): the hold time expires. -/
def execRailHoldExpiry (s : State) : Host.Outcome State Fault Refusal :=
  .next (s.settle.holdExpiry)

/-- RAIL_HISTORY_AGEING (R149): the oldest operation becomes 60 s old. -/
def execRailHistoryAgeing (s : State) : Host.Outcome State Fault Refusal :=
  .next (s.settle.railAged)

/-- RESET_RAIL_EARTHING, Reset Rail Earthing [07h] (R150). -/
def execResetRailEarthing (tag : Byte) (payload : List Byte) (s : State) : Host.Outcome State Fault Refusal :=
  .next (s.settle.request 0x07 tag payload (State.answerResetRail payload))

/-- HOST_SUPERVISION_EXPIRY (R152, R153): the supervision timer expires. -/
def execHostSupervisionExpiry (s : State) : Host.Outcome State Fault Refusal :=
  .next (s.settle.hostLost)

/-- READ_STATION_STATUS, Read Station Status [01h] (R156). -/
def execReadStationStatus (tag : Byte) (payload : List Byte) (s : State) : Host.Outcome State Fault Refusal :=
  .next (s.settle.request 0x01 tag payload (State.answerReadStationStatus payload))

/-- RUN_STATION, Run Station [02h] (R140). -/
def execRunStation (tag : Byte) (payload : List Byte) (s : State) : Host.Outcome State Fault Refusal :=
  .next (s.settle.request 0x02 tag payload (State.answerRunStation payload))

/-- STANDBY_STATION, Standby Station [03h] (R142). -/
def execStandbyStation (tag : Byte) (payload : List Byte) (s : State) : Host.Outcome State Fault Refusal :=
  .next (s.settle.request 0x03 tag payload (State.answerStandbyStation payload))

/-- RESUME_STATION, Resume Station [04h] (R146). -/
def execResumeStation (tag : Byte) (payload : List Byte) (s : State) : Host.Outcome State Fault Refusal :=
  .next (s.settle.request 0x04 tag payload (State.answerResumeStation payload))

/-- SET_TIME, Set Time [05h] (R155). -/
def execSetTime (tag : Byte) (payload : List Byte) (s : State) : Host.Outcome State Fault Refusal :=
  .next (s.settle.request 0x05 tag payload (State.answerSetTime payload))

/-- RESTART, Restart [06h] (R154, R204). -/
def execRestart (tag : Byte) (payload : List Byte) (s : State) : Host.Outcome State Fault Refusal :=
  .next (s.settle.request 0x06 tag payload (State.answerRestart payload))

end Sys2Proof.Machine
end

