-- ==== Sys2Proof/Machine/TerminalCommands.lean ====
section
/-! DEFINITION. Chapter 8: the commands of the field terminals. A command from outside first lets every internal
step that is due happen (log 2); a step the part raises of itself is taken where it is due. -/
namespace Sys2Proof.Machine

open Sys2Proof

/-- THROUGH_SOURCE_CHANGE (R164): the line of a source changes between samples; every THROUGH terminal copies it. -/
def execThroughSourceChange (t : Fin 16) (level : Bool) (s : State) : Host.Outcome State Fault Refusal :=
  .next (s.settle.setLine t level)

/-- SET_OUTPUT, Set Output [81h] (R165). -/
def execSetOutput (tag : Byte) (payload : List Byte) (s : State) : Host.Outcome State Fault Refusal :=
  .next (s.settle.request 0x81 tag payload (State.answerSetOutput payload))

/-- READ_TERMINALS, Read Terminals [80h] (R161, R170). -/
def execReadTerminals (tag : Byte) (payload : List Byte) (s : State) : Host.Outcome State Fault Refusal :=
  .next (s.settle.request 0x80 tag payload (State.answerReadTerminals payload))

end Sys2Proof.Machine
end

