-- ==== Sys2Proof/Machine/Dispatch.lean ====
section
/-! DEFINITION. The commands and their meanings, one arm each (the rows of spec/opcode_table.json). -/
namespace Sys2Proof.Machine

open Sys2Proof

def exec (i : Instr) (s : State) : Host.Outcome State Fault Refusal :=
  match i with
  | .powerOn straps => Sys2Proof.Machine.execPowerOn straps s
  | .resetPin straps => Sys2Proof.Machine.execResetPin straps s
  | .frameTrigger lines => Sys2Proof.Machine.execFrameTrigger lines s
  | .conversionComplete ch result => Sys2Proof.Machine.execConversionComplete ch result s
  | .channelFail ch => Sys2Proof.Machine.execChannelFail ch s
  | .channelRestored ch => Sys2Proof.Machine.execChannelRestored ch s
  | .clockWindowEnd window => Sys2Proof.Machine.execClockWindowEnd window s
  | .clockFail => Sys2Proof.Machine.execClockFail s
  | .clockGood => Sys2Proof.Machine.execClockGood s
  | .sotfWindowEnd k => Sys2Proof.Machine.execSotfWindowEnd k s
  | .bfbRawChange k level => Sys2Proof.Machine.execBfbRawChange k level s
  | .bfbFilterExpiry k => Sys2Proof.Machine.execBfbFilterExpiry k s
  | .closeTimerExpiry k => Sys2Proof.Machine.execCloseTimerExpiry k s
  | .openTimerExpiry k => Sys2Proof.Machine.execOpenTimerExpiry k s
  | .deadTimeExpiry k => Sys2Proof.Machine.execDeadTimeExpiry k s
  | .reclaimExpiry k => Sys2Proof.Machine.execReclaimExpiry k s
  | .settleExpiry k => Sys2Proof.Machine.execSettleExpiry k s
  | .lineTestWindowComplete k => Sys2Proof.Machine.execLineTestWindowComplete k s
  | .retryExpiry k => Sys2Proof.Machine.execRetryExpiry k s
  | .tWaitExpiry k => Sys2Proof.Machine.execTWaitExpiry k s
  | .liveLine k => Sys2Proof.Machine.execLiveLine k s
  | .closeFeeder tag payload => Sys2Proof.Machine.execCloseFeeder tag payload s
  | .openFeeder tag payload => Sys2Proof.Machine.execOpenFeeder tag payload s
  | .resetFeeder tag payload => Sys2Proof.Machine.execResetFeeder tag payload s
  | .blockFeeder tag payload => Sys2Proof.Machine.execBlockFeeder tag payload s
  | .unblockFeeder tag payload => Sys2Proof.Machine.execUnblockFeeder tag payload s
  | .readFeeder tag payload => Sys2Proof.Machine.execReadFeeder tag payload s
  | .telegramReceived p bytes symbolError => Sys2Proof.Machine.execTelegramReceived p bytes symbolError s
  | .linkUp j => Sys2Proof.Machine.execLinkUp j s
  | .portSyncLoss p => Sys2Proof.Machine.execPortSyncLoss p s
  | .telegramPeriod => Sys2Proof.Machine.execTelegramPeriod s
  | .transmissionEnd p => Sys2Proof.Machine.execTransmissionEnd p s
  | .partnerTimeout j => Sys2Proof.Machine.execPartnerTimeout j s
  | .testTelegramPeriod p => Sys2Proof.Machine.execTestTelegramPeriod p s
  | .testEchoTimeout p => Sys2Proof.Machine.execTestEchoTimeout p s
  | .linkTestExpiry p => Sys2Proof.Machine.execLinkTestExpiry p s
  | .readLink tag payload => Sys2Proof.Machine.execReadLink tag payload s
  | .startLinkTest tag payload => Sys2Proof.Machine.execStartLinkTest tag payload s
  | .stopLinkTest tag payload => Sys2Proof.Machine.execStopLinkTest tag payload s
  | .readSections tag payload => Sys2Proof.Machine.execReadSections tag payload s
  | .syncCrossing g phase time => Sys2Proof.Machine.execSyncCrossing g phase time s
  | .crossingTimerExpiry g => Sys2Proof.Machine.execCrossingTimerExpiry g s
  | .syncStateChange g => Sys2Proof.Machine.execSyncStateChange g s
  | .firingInstant g m => Sys2Proof.Machine.execFiringInstant g m s
  | .firingPulseEnd g => Sys2Proof.Machine.execFiringPulseEnd g s
  | .overcurrent g => Sys2Proof.Machine.execOvercurrent g s
  | .restartDelayExpiry g => Sys2Proof.Machine.execRestartDelayExpiry g s
  | .restartHistoryAgeing g => Sys2Proof.Machine.execRestartHistoryAgeing g s
  | .enableGroup tag payload => Sys2Proof.Machine.execEnableGroup tag payload s
  | .disableGroup tag payload => Sys2Proof.Machine.execDisableGroup tag payload s
  | .resetGroup tag payload => Sys2Proof.Machine.execResetGroup tag payload s
  | .setVoltage tag payload => Sys2Proof.Machine.execSetVoltage tag payload s
  | .readGroups tag payload => Sys2Proof.Machine.execReadGroups tag payload s
  | .settingsLoadComplete => Sys2Proof.Machine.execSettingsLoadComplete s
  | .startComplete => Sys2Proof.Machine.execStartComplete s
  | .frameFault => Sys2Proof.Machine.execFrameFault s
  | .railEarthOperate => Sys2Proof.Machine.execRailEarthOperate s
  | .railHoldExpiry => Sys2Proof.Machine.execRailHoldExpiry s
  | .railHistoryAgeing => Sys2Proof.Machine.execRailHistoryAgeing s
  | .resetRailEarthing tag payload => Sys2Proof.Machine.execResetRailEarthing tag payload s
  | .hostSupervisionExpiry => Sys2Proof.Machine.execHostSupervisionExpiry s
  | .readStationStatus tag payload => Sys2Proof.Machine.execReadStationStatus tag payload s
  | .runStation tag payload => Sys2Proof.Machine.execRunStation tag payload s
  | .standbyStation tag payload => Sys2Proof.Machine.execStandbyStation tag payload s
  | .resumeStation tag payload => Sys2Proof.Machine.execResumeStation tag payload s
  | .setTime tag payload => Sys2Proof.Machine.execSetTime tag payload s
  | .restart tag payload => Sys2Proof.Machine.execRestart tag payload s
  | .throughSourceChange t level => Sys2Proof.Machine.execThroughSourceChange t level s
  | .setOutput tag payload => Sys2Proof.Machine.execSetOutput tag payload s
  | .readTerminals tag payload => Sys2Proof.Machine.execReadTerminals tag payload s
  | .countEvents tag payload => Sys2Proof.Machine.execCountEvents tag payload s
  | .takeEvents tag payload => Sys2Proof.Machine.execTakeEvents tag payload s
  | .averagePeriodComplete => Sys2Proof.Machine.execAveragePeriodComplete s
  | .readMeasurements tag payload => Sys2Proof.Machine.execReadMeasurements tag payload s
  | .readEnergy tag payload => Sys2Proof.Machine.execReadEnergy tag payload s
  | .captureComplete => Sys2Proof.Machine.execCaptureComplete s
  | .readCaptureStatus tag payload => Sys2Proof.Machine.execReadCaptureStatus tag payload s
  | .readCapture tag payload => Sys2Proof.Machine.execReadCapture tag payload s
  | .releaseCapture tag payload => Sys2Proof.Machine.execReleaseCapture tag payload s
  | .stopCapture tag payload => Sys2Proof.Machine.execStopCapture tag payload s
  | .triggerCapture tag payload => Sys2Proof.Machine.execTriggerCapture tag payload s
  | .enableCapture tag payload => Sys2Proof.Machine.execEnableCapture tag payload s
  | .disableCapture tag payload => Sys2Proof.Machine.execDisableCapture tag payload s
  | .controlFrameDiscarded chars => Sys2Proof.Machine.execControlFrameDiscarded chars s
  | .unknownRequest kind tag payload => Sys2Proof.Machine.execUnknownRequest kind tag payload s
  | .replySent => Sys2Proof.Machine.execReplySent s
  | .readSetting tag payload => Sys2Proof.Machine.execReadSetting tag payload s
  | .writeSetting tag payload => Sys2Proof.Machine.execWriteSetting tag payload s
  | .storeSettings tag payload => Sys2Proof.Machine.execStoreSettings tag payload s
  | .storeComplete => Sys2Proof.Machine.execStoreComplete s
  | .loadDefaults tag payload => Sys2Proof.Machine.execLoadDefaults tag payload s
  | .controlFrameAbandoned gathered how => Sys2Proof.Machine.execControlFrameAbandoned gathered how s
  | .idleSymbolReceived p => Sys2Proof.Machine.execIdleSymbolReceived p s

end Sys2Proof.Machine
end

