-- ==== Sys2Proof/Safety.lean ====
section
/-! DEFINITION. The terms the statements use: a port that takes a request at once, a request heard and replied to, what a
command leaves alone, and the properties that every step keeps. -/
namespace Sys2Proof.Machine

open Sys2Proof

-- ===================================================================== requests

/-- The port takes the next request at once: no reply is in progress, no Restart waits, and the station computer counts
as PRESENT (R152, R197, R204). -/
def State.portFree (s : State) : Prop := s.cmp.reply = none ∧ s.cmp.restartPending = false ∧ s.sts.present = true

/-- A request's effect is its own alone: no internal step is due (log 2), and the port is free. -/
def State.ready (s : State) : Prop := s.quiet = true ∧ s.portFree

/-- s after a free port has received a request: the receiver hunts, and once the start steps are complete the
supervision timer is loaded afresh (R152, R195). -/
def State.heard (s : State) : State :=
  { s with
    cmp := { s.cmp with receiving := false, rx := [] }
    sts := { s.sts with
      supTimer :=
        if s.sts.complete = true then
          (if s.station.hostSupervision = 0 then none else some (s.station.hostSupervision * 1000))
        else s.sts.supTimer } }

/-- s with a reply in progress to a request of a kind and tag (R197): its kind is the request kind plus 80h. -/
def State.replying (s : State) (kind tag : Byte) (st : Status) (p : Payload) : State :=
  { s with cmp := { s.cmp with reply := some { kind := kind + 0x80, tag := tag, status := st, payload := p } } }

/-- The outcome of a request that leaves t and is answered. -/
def Answers (c : Instr) (s : State) (kind tag : Byte) (t : State) (st : Status) (p : Payload) : Prop :=
  exec c s = .next (t.replying kind tag st p)

-- ===================================================================== events

/-- An event as it is stamped in s (R172). -/
def State.event (s : State) (block : Block) (index : Nat) (kind : EventKind) (v1 v2 : Word16) (ref : CapRef) : Event :=
  { time := s.stationTime, sub := s.subUs / 250, unset := s.unset, block := block, index := index, kind := kind
    value1 := v1, value2 := v2, ref := ref, overflow := false }

/-- The event queue q' is q with further events appended, each by the rule of the ring (R172, R173). -/
def EventsGrow (q q' : List Event) : Prop := ∃ es : List Event, q' = es.foldl pushEvent q

-- ===================================================================== frames

/-- t differs from s at most in feeder k, its discriminator and its section, and in the event queue. -/
def FeederOnly (k : Fin 6) (s t : State) : Prop :=
  t = { s with feeder := t.feeder, disc := t.disc, sec := t.sec, events := t.events } ∧
  ∀ j : Fin 6, j ≠ k → t.feeder[j] = s.feeder[j] ∧ t.disc[j] = s.disc[j] ∧ t.sec[j] = s.sec[j]

/-- t differs from s at most in group g and in the event queue. -/
def GroupOnly (g : Fin 2) (s t : State) : Prop :=
  t = { s with group := t.group, events := t.events } ∧ ∀ h : Fin 2, h ≠ g → t.group[h] = s.group[h]

-- ===================================================================== properties every step keeps

/-- The event queue holds at most 256 entries (section 9.1). -/
def EventsFit (s : State) : Prop := s.events.length ≤ 256

/-- A value lies in the range of channel c (section 1.2). -/
def InRange (c : Fin 17) (v : Int) : Prop := (channelRange c).1 ≤ v ∧ v ≤ (channelRange c).2

/-- Every value the acquisition unit holds or has published lies in its channel's range (R3). -/
def ChannelsInRange (s : State) : Prop :=
  ∀ c : Fin 17, InRange c s.aqu.channels[c].held ∧ (∀ r, s.aqu.channels[c].result = some r → InRange c r.1) ∧
    InRange c s.aqu.latest.readings[c].value

/-- At most one buffer of the capture store is ARMED or RECORDING (R184). -/
def OneLiveBuffer (s : State) : Prop := ¬ (s.cap.x.live = true ∧ s.cap.y.live = true)

/-- Each transmit queue holds at most four telegrams (R96). -/
def QueuesFit (s : State) : Prop := ∀ p : Port, (s.port p).queue.length ≤ 4

/-- The line-test role of a section goes with its feeder's state: LEADER in LINE_TEST, FOLLOWER in WAIT_PARTNER, NONE
in every other state (R54). -/
def RolesFollow (s : State) : Prop :=
  ∀ k : Fin 6, s.sec[k].role =
    if s.feeder[k].state = .lineTest then .leader else if s.feeder[k].state = .waitPartner then .follower else .none

/-- What holds until the start steps are COMPLETE: the station is in START, or in SAFE after an early SAFE cause, with RUN
clear (R139, R140); every feeder stands in OPEN, and keeps a station trip in SAFE (R89, R144); no group fires or waits to
restart (R121, R122); and no terminal has a function (R168). -/
def StartHolds (s : State) : Prop :=
  s.sts.complete = false →
    s.sts.run = false ∧ (s.sts.mode = .start ∨ s.sts.mode = .safe) ∧
    (∀ k : Fin 6, s.feeder[k].state = .open ∧ (s.sts.mode = .safe → Kept.stationTrip ∈ s.feeder[k].kept)) ∧
    (∀ g : Fin 2, s.group[g].state.fires = false ∧ s.group[g].state ≠ .blocked) ∧
    ∀ t : Fin 16, s.term[t].cfg.fn = .none

/-- The station mode and the RUN condition agree with the count of available groups (R112, R141), and a present SAFE
cause holds the station in SAFE (R143, R144). -/
def StationConsistent (s : State) : Prop :=
  s.sts.available = s.availableGroups ∧
  (s.sts.run = true → s.sts.mode = modeOfCount s.sts.available) ∧
  (s.sts.run = false → s.sts.mode.feeds = false) ∧
  (s.safeCauses.any = true → s.sts.mode = .safe)

end Sys2Proof.Machine
end

