-- ==== Sys2Proof/Certificates/Slice0/Obligations.lean ====
section
/-! DEFINITION. The statements, in the order of the chapters of the manual. A statement about a command names the states
it is taken in by hypotheses on the state and the operands alone; s.quiet says that no internal step is due (log 2). -/

open Sys2Proof Sys2Proof.Machine

-- ===================================================================== the machine

/-- A step takes the command at the front of the queue and runs it on the state with the queue's rest. On an empty queue
the part idles: the queue is the model's own, and so is this choice (logs 3 and 4). -/
def Obligations.StepRunsFrontCommand : Prop :=
  (∀ (c : Instr) (rest : List Instr) (s : State),
    step { s with pending := c :: rest } = exec c { s with pending := rest }) ∧
  (∀ s : State, s.pending = [] → step s = .next s)

/-- What every reset leaves, block by block: R17, R39, R57, R89, R111, R134, R157, R171, R178, R182, R193, R205, R210.
-/
def Obligations.ResetLeavesResetValues : Prop :=
  State.reset.aqu.clock = .unproven ∧ State.reset.aqu.nextFrame = 1 ∧ State.reset.aqu.latest.number = 0 ∧
  (∀ c : Fin 17, State.reset.aqu.channels[c].health = .stale ∧ State.reset.aqu.channels[c].staleRun = 0 ∧
    State.reset.aqu.channels[c].goodRun = 0 ∧ State.reset.reading c = { value := 0, health := .stale, sat := false }) ∧
  (∀ k : Fin 6, State.reset.disc[k].filtered = 0 ∧ State.reset.disc[k].history = [] ∧
    State.reset.disc[k].groupInUse = .b ∧ State.reset.feeder[k].state = .open ∧
    State.reset.feeder[k].attempt = 0 ∧ State.reset.feeder[k].timer = none ∧
    State.reset.closeLine k = false ∧ State.reset.tripLine k = false ∧ State.reset.ltcLine k = false ∧
    State.reset.sec[k].double = false ∧ State.reset.sec[k].itOut = false ∧ State.reset.sec[k].itIn = false ∧
    State.reset.sec[k].summary = .unknown ∧ State.reset.sec[k].role = .none) ∧
  (∀ j : Fin 4, State.reset.link[j].up = false ∧ State.reset.link[j].lastSeq = none ∧
    State.reset.link[j].nextSeq = 0 ∧ State.reset.link[j].mode = none ∧ State.reset.link[j].groups = 0) ∧
  (∀ p : Port, (State.reset.port p).state = .syncing ∧ (State.reset.port p).queue = [] ∧
    (State.reset.port p).forwarded = 0 ∧ (State.reset.port p).dropped = 0) ∧
  (∀ g : Fin 2, State.reset.group[g].state = .off ∧ State.reset.group[g].alpha = 1500 ∧
    State.reset.group[g].next = 0 ∧ State.reset.group[g].history = [] ∧ State.reset.sync[g].locked = false ∧
    State.reset.sync[g].period = none) ∧
  State.reset.sts.mode = .start ∧ State.reset.sts.complete = false ∧ State.reset.sts.run = false ∧
  State.reset.safeCauses.any = false ∧ State.reset.sts.available = 2 ∧ State.reset.sts.present = true ∧
  State.reset.sts.supTimer = none ∧ State.reset.sts.contact = .released ∧ State.reset.stationTime = 0 ∧
  State.reset.elapsed = 0 ∧ State.reset.unset = true ∧
  (∀ t : Fin 16, State.reset.term[t].cfg = { mode := .inPlain, fn := .none, eventEnable := false, source := none } ∧
    State.reset.term[t].proc = false ∧ State.reset.term[t].change = false ∧ State.reset.driven t = none) ∧
  State.reset.events = [] ∧ State.reset.attn = false ∧ State.reset.avg.period = 0 ∧
  (∀ c : Fin 17, State.reset.avg.means[c] = none) ∧ State.reset.energy.lastCounted = 0 ∧
  State.reset.cap.enabled = false ∧ State.reset.cap.toggle = .x ∧ State.reset.cap.missed = 0 ∧
  State.reset.cap.x.state = .idle ∧ State.reset.cap.y.state = .idle ∧
  State.reset.cmp = { receiving := false, rx := [], reply := none, busy := none, restartPending := false } ∧
  State.reset.sst.activity = .loading ∧ State.reset.sst.lost = false ∧ State.reset.sst.confirm = false ∧
  State.reset.cfg = Settings.default ∧ State.reset.uset = 780

/-- POWER_ON and RESET_PIN put every block in its reset state with their own restart cause (R154). The settings image
stays, its CRC marked invalid where a store was in progress (R208, R210). Three choices are the model's: the levels of
the input lines are not the part's own and stay as they are (log 10); every breaker feedback is reported released in the
first millisecond, whatever its raw level (log 11); RESET_PIN is the assertion and the release of the pin together (log
30). REPLY_SENT of a Restart's reply (R154, R204): the part resets with restart cause RESTART_REQUEST. The settings
image stays, and the straps and lines keep the levels they had (log 10). -/
def Obligations.EveryResetLeavesResetState : Prop :=
  (∀ (straps : Byte) (s : State) (c : Instr) (cause : RestartCause),
    (c = .powerOn straps ∧ cause = .powerOn) ∨ (c = .resetPin straps ∧ cause = .resetPin) →
    ∃ t, exec c s = .next t ∧
      t = { State.reset with
        pending := s.pending, straps := straps, lines := s.lines, bfb := t.bfb
        sts := { State.reset.sts with restartCause := cause }
        sst := { State.reset.sst with
          image := s.sst.image, imageCrc := if s.sst.activity = .storing then none else s.sst.imageCrc } } ∧
      ∀ k : Fin 6, t.bfb[k] = { raw := s.bfb[k].raw, reported := false, settled := false, filter := some 10 }) ∧
  (∀ (r : Reply) (s : State), s.quiet = true → s.cmp.reply = some r → s.cmp.restartPending = true →
    ∃ t, exec .replySent s = .next t ∧
      t = { State.reset with
        pending := s.pending, straps := s.straps, lines := s.lines, bfb := t.bfb
        sts := { State.reset.sts with restartCause := .restartRequest }
        sst := { State.reset.sst with
          image := s.sst.image, imageCrc := if s.sst.activity = .storing then none else s.sst.imageCrc } } ∧
      ∀ k : Fin 6, t.bfb[k] = { raw := s.bfb[k].raw, reported := false, settled := false, filter := some 10 })

-- ===================================================================== what every step keeps

/-- From every state whose event queue holds at most 256 entries, a step leaves one that does (section 9.1, R173). No
step arms a second buffer beside one that is ARMED or RECORDING (R184). No step puts a fifth telegram in a transmit
queue (R96). -/
def Obligations.QueueAndBufferBoundsKept : Prop :=
  (∀ s t : State, EventsFit s → step s = .next t → EventsFit t) ∧
  (∀ s t : State, OneLiveBuffer s → step s = .next t → OneLiveBuffer t) ∧
  (∀ s t : State, QueuesFit s → step s = .next t → QueuesFit t)

/-- From every state whose channel values lie in range, a step leaves one whose values do (R3, R4, R9). -/
def Obligations.ChannelRangesKept : Prop :=
  ∀ s t : State, ChannelsInRange s → step s = .next t → ChannelsInRange t

/-- Every step keeps the line-test roles in agreement with the feeder states (R54). -/
def Obligations.RolesKept : Prop :=
  ∀ s t : State, RolesFollow s → step s = .next t → RolesFollow t

/-- Every step keeps the station mode in agreement with RUN, with the available groups and with the SAFE causes (R141,
R143, R144). Until the end of START every step keeps the feeders OPEN and the groups at rest, the terminals without a
function, and the station in START, or in SAFE with a station trip kept for every feeder (R89, R137, R139, R144, R168).
-/
def Obligations.StationConsistencyKept : Prop :=
  (∀ s t : State, StationConsistent s → step s = .next t → StationConsistent t) ∧
  (∀ s t : State, StartHolds s → step s = .next t → StartHolds t)

/-- The invariants hold right after reset. -/
def Obligations.InvariantsHoldAtReset : Prop :=
  EventsFit State.reset ∧ ChannelsInRange State.reset ∧ OneLiveBuffer State.reset ∧
  QueuesFit State.reset ∧ StartHolds State.reset ∧ RolesFollow State.reset ∧ StationConsistent State.reset

-- ===================================================================== acquisition (chapter 1)

/-- FRAME_TRIGGER with the clock GOOD (R1, R4, R5, R7, R9, R10, R159): the terminals are sampled, every channel is
treated by whether its conversion has completed, and the record is published under the number of the frame ended. Every
consumer takes it: the capture store with the averages and the energy, the six feeders, the two groups, and the frame
fault and rail elements, in an order that is the model's choice (log 7). 250 µs pass: that station time and elapsed time
(R155) run with this command is the model's choice (log 1). With the frame timer stopped there is no trigger, and
nothing happens. -/
def Obligations.FrameTriggerPublishesRecord : Prop :=
  ∀ (lines : BitVec 16) (s : State), s.quiet = true →
    (s.aqu.clock ≠ .good → exec (.frameTrigger lines) s = .next s) ∧
    (s.aqu.clock = .good →
      ∃ t, exec (.frameTrigger lines) s = .next t ∧
        t.aqu.latest.number = s.aqu.nextFrame ∧
        t.aqu = { s.aqu with nextFrame := s.aqu.nextFrame + 1, latest := t.aqu.latest, channels := t.aqu.channels } ∧
        (∀ (c : Fin 17) (v : Int) (sat : Bool), s.aqu.channels[c].result = some (v, sat) →
          s.aqu.channels[c].health ≠ .failed →
          t.aqu.channels[c] = { s.aqu.channels[c] with
            held := v, heldSat := sat, converting := true, result := none, health := .good, staleRun := 0 } ∧
          t.reading c = { value := v, health := .good, sat := sat }) ∧
        (∀ (c : Fin 17) (v : Int) (sat : Bool), s.aqu.channels[c].result = some (v, sat) →
          s.aqu.channels[c].health = .failed →
          t.aqu.channels[c] = { s.aqu.channels[c] with
            held := v, heldSat := sat, converting := true, result := none
            goodRun := min 64 (s.aqu.channels[c].goodRun + 1) } ∧
          t.reading c =
            { value := v, health := if 63 ≤ s.aqu.channels[c].goodRun then .good else .failed, sat := sat }) ∧
        (∀ c : Fin 17, s.aqu.channels[c].result = none → s.aqu.channels[c].health ≠ .failed →
          t.aqu.channels[c] = { s.aqu.channels[c] with
            converting := true, health := .stale, staleRun := min 4 (s.aqu.channels[c].staleRun + 1) } ∧
          t.reading c = { value := s.aqu.channels[c].held, health := .stale, sat := s.aqu.channels[c].heldSat }) ∧
        (∀ c : Fin 17, s.aqu.channels[c].result = none → s.aqu.channels[c].health = .failed →
          t.aqu.channels[c] = { s.aqu.channels[c] with converting := true, goodRun := 0 } ∧
          t.reading c = { value := s.aqu.channels[c].held, health := .failed, sat := s.aqu.channels[c].heldSat }) ∧
        t.lines = lines ∧ t.subUs = (s.subUs + 250) % 1000 ∧
        t.elapsed = s.elapsed + BitVec.ofNat 48 ((s.subUs + 250) / 1000) ∧
        t.stationTime = s.stationTime + BitVec.ofNat 48 ((s.subUs + 250) / 1000) ∧
        (∀ j : Fin 16, t.term[j] =
          if s.term[j].cfg.mode = .inPlain ∨ s.term[j].cfg.mode = .inFiltered ∨
              s.term[j].cfg.mode = .inFilteredInverted then
            let r := s.term[j].sample (lines.getLsbD j.val)
            { r with change := r.change || (s.sts.complete && r.proc != s.term[j].proc) }
          else s.term[j]) ∧
        (let p : State := { ({ s.advance 250 with lines := lines } : State).sampleTerminals with aqu := t.aqu }
         let q := feeders6.foldl (fun s k => s.feederFrame k) p.captureFrame.avgFrame.energyFrame
         t = (groups2.foldl (fun s g => s.groupFrame g) q).ffFrame.railFrame) ∧
        EventsGrow s.events t.events ∧ t.pending = s.pending ∧ t.straps = s.straps ∧ t.unset = s.unset ∧
        (∀ g : Fin 2, t.sync[g] = { s.sync[g] with crossTimer := s.sync[g].crossTimer.map (· - 250) }) ∧
        t.uset = s.uset ∧ t.bfb = s.bfb ∧ t.cmp = s.cmp ∧ t.sst = s.sst)

/-- CONVERSION_COMPLETE (R2, R3, R4): the result, truncated toward zero, is held for the frame in progress; beyond the
channel's range it is the nearer limit with SATURATED set. Without a conversion in progress, and where a trigger taken
first has begun another frame, it does not act. That the operand is the scaled result in thousandths, with the number of
the frame its conversion was started for, is the model's choice (log 5). -/
def Obligations.ConversionHeldWithinRange : Prop :=
  ∀ (c : Fin 17) (frame : Word32) (milli : Int) (s : State), s.quiet = true →
    (s.aqu.channels[c].converting = false ∨ frame ≠ s.aqu.nextFrame →
      exec (.conversionComplete c { frame := frame, milli := milli }) s = .next s) ∧
    (s.aqu.channels[c].converting = true → frame = s.aqu.nextFrame →
      ∃ (v : Int) (sat : Bool),
        exec (.conversionComplete c { frame := frame, milli := milli }) s = .next
          { s with aqu := { s.aqu with
              channels := s.aqu.channels.set c
                { s.aqu.channels[c] with converting := false, result := some (v, sat) } } } ∧
        (channelRange c).1 ≤ v ∧ v ≤ (channelRange c).2 ∧
        ((sat = false ∧ v = milli.tdiv 1000) ∨
         (sat = true ∧ v = (channelRange c).1 ∧ milli.tdiv 1000 < (channelRange c).1) ∨
         (sat = true ∧ v = (channelRange c).2 ∧ (channelRange c).2 < milli.tdiv 1000)))

/-- CHANNEL_FAIL (R8, R11, R82): a stale run of 4 makes the channel FAILED, the failure is logged with the held value,
and it is handed to the owner of the channel's function. In START a feeder keeps the failure for its adoption.
CHANNEL_RESTORED (R10, R11): 64 completed conversions restore a FAILED channel; a cause that is a condition of the
channel clears, and the feeders' lockouts and marks stay. -/
def Obligations.ChannelChangesHandedOn : Prop :=
  (∀ (c : Fin 17) (s : State), s.aqu.channels[c].staleRun = 4 → s.aqu.channels[c].health ≠ .failed →
    ∃ t, exec (.channelFail c) s = .next t ∧
      t.aqu = { s.aqu with
        channels := s.aqu.channels.set c { s.aqu.channels[c] with health := .failed, staleRun := 0, goodRun := 0 } } ∧
      EventsGrow
        (pushEvent s.events
          (s.event .aqu c.val .channelFail (BitVec.ofNat 16 c.val) (BitVec.ofInt 16 s.aqu.channels[c].held) .none))
        t.events ∧
      (c.val = 0 → t.sts.channelUb = true) ∧
      (c.val = 1 → t.sts.urInService = false ∧ t.sts.stage1 = 0 ∧ t.sts.stage2 = 0 ∧ t.sts.contact = s.sts.contact) ∧
      (∀ g : Fin 2, c.val = g.val + 2 → t.group[g].channel = true ∧ t.group[g].state.fires = false) ∧
      (∀ k : Fin 6, c.val = k.val + 4 → s.sts.complete = true →
        (t.feeder[k].state = .opening ∧ t.feeder[k].dest = some .lockedOut) ∨ t.feeder[k].state = .lockedOut) ∧
      (∀ k : Fin 6, c.val = k.val + 10 → s.sts.complete = true →
        t.feeder[k].lost = true ∧ t.feeder[k].liveRun = 0) ∧
      (∀ k : Fin 6, c.val = k.val + 4 → s.sts.complete = false →
        t.feeder = s.feeder.set k { s.feeder[k] with kept := s.feeder[k].kept ++ [.currentFailed] }) ∧
      (∀ k : Fin 6, c.val = k.val + 10 → s.sts.complete = false →
        t.feeder = s.feeder.set k { s.feeder[k] with kept := s.feeder[k].kept ++ [.voltageFailed] }) ∧
      (c.val = 16 → t.sts.channelIfe = true) ∧
      t.pending = s.pending ∧ t.straps = s.straps ∧ t.lines = s.lines ∧ t.elapsed = s.elapsed ∧
      t.stationTime = s.stationTime ∧ t.subUs = s.subUs ∧ t.unset = s.unset ∧ t.sync = s.sync ∧ t.uset = s.uset ∧
      t.bfb = s.bfb ∧ t.term = s.term ∧ t.link = s.link ∧ t.upPort = s.upPort ∧ t.dnPort = s.dnPort ∧
      t.avg = s.avg ∧ t.energy = s.energy ∧ t.cmp = s.cmp ∧ t.sst = s.sst) ∧
  (∀ (c : Fin 17) (s : State), s.aqu.channels[c].goodRun = 64 → s.aqu.channels[c].health = .failed →
    ∃ t, exec (.channelRestored c) s = .next t ∧
      t.aqu = { s.aqu with
        channels := s.aqu.channels.set c { s.aqu.channels[c] with health := .good, staleRun := 0, goodRun := 0 } } ∧
      EventsGrow
        (pushEvent s.events
          (s.event .aqu c.val .channelRestored (BitVec.ofNat 16 c.val) (BitVec.ofInt 16 (s.reading c).value) .none))
        t.events ∧
      (c.val = 0 → t.sts.channelUb = false) ∧ (c.val = 1 → t.sts.urInService = true) ∧
      (∀ g : Fin 2, c.val = g.val + 2 → t.group[g].channel = false) ∧ (c.val = 16 → t.sts.channelIfe = false) ∧
      t.feeder = s.feeder ∧ t.sec = s.sec ∧ t.disc = s.disc ∧ t.sync = s.sync ∧ t.uset = s.uset ∧ t.bfb = s.bfb ∧
      t.term = s.term ∧ t.link = s.link ∧ t.upPort = s.upPort ∧ t.dnPort = s.dnPort ∧ t.avg = s.avg ∧
      t.energy = s.energy ∧ t.cmp = s.cmp ∧ t.sst = s.sst ∧ t.pending = s.pending)

/-- CLOCK_WINDOW_END (R12, R13, R15, R16): the window's count is judged, and the breaker feedback filters run 100 µs.
Outside GOOD the 100 µs are also station and elapsed time (R155). That a stopped window in GOOD counts as a bad one too
(log 41), and that the command carries the levels of the address straps, are the model's choices (log 49). Time (R60,
R113, R155): whole milliseconds count station time and elapsed time, modulo 2^48, and run every elapsed-time timer down,
and the crossing timers run down in microseconds; a timer that has run out stands at 0 until its expiry is taken (the
last is the model's choice, log 1). -/
def Obligations.WindowEndAndTimeRunCounts : Prop :=
  (∀ (n : Nat) (straps : Byte) (s : State), s.quiet = true →
    ∃ t, exec (.clockWindowEnd { periods := n, straps := straps }) s = .next t ∧
      t.aqu = { s.aqu with
        badWindows :=
          if s.aqu.clock = .good then (if 2280 ≤ n ∧ n ≤ 2520 then 0 else min 10 (s.aqu.badWindows + 1))
          else s.aqu.badWindows
        stopped := if s.aqu.clock = .good then n == 0 else s.aqu.stopped
        goodWindows :=
          if s.aqu.clock = .good then s.aqu.goodWindows
          else if 2280 ≤ n ∧ n ≤ 2520 then min 1000 (s.aqu.goodWindows + 1) else 0
        elapsedWindows :=
          if s.aqu.clock = .unproven then min 2000 (s.aqu.elapsedWindows + 1) else s.aqu.elapsedWindows } ∧
      (∀ k : Fin 6, t.bfb[k] = { s.bfb[k] with filter := s.bfb[k].filter.map (· - 1) }) ∧
      t = { (if s.aqu.clock = .good then s else s.advance 100) with aqu := t.aqu, bfb := t.bfb, straps := straps }) ∧
  (∀ (us : Nat) (s : State), s.subUs < 1000 →
    1000 * ((s.advance us).elapsed - s.elapsed).toNat + (s.advance us).subUs =
      1000 * ((s.subUs + us) / 1000 % 2 ^ 48) + (s.subUs + us) % 1000 ∧
    (s.advance us).stationTime - s.stationTime = (s.advance us).elapsed - s.elapsed ∧
    (∀ (k : Fin 6) (n : Nat), s.feeder[k].timer = some n →
      (s.advance us).feeder[k] = { s.feeder[k] with timer := some (n - (s.subUs + us) / 1000) }) ∧
    (∀ k : Fin 6, s.feeder[k].timer = none → (s.advance us).feeder[k] = s.feeder[k]) ∧
    (∀ (g : Fin 2) (n : Nat), s.group[g].delay = some n →
      (s.advance us).group[g] = { s.group[g] with delay := some (n - (s.subUs + us) / 1000) }) ∧
    (∀ (j : Fin 4) (n : Nat), s.link[j].timeout = some n →
      (s.advance us).link[j] = { s.link[j] with timeout := some (n - (s.subUs + us) / 1000) }) ∧
    (∀ n : Nat, s.sts.supTimer = some n → (s.advance us).sts.supTimer = some (n - (s.subUs + us) / 1000)) ∧
    (∀ n : Nat, s.sts.hold = some n → (s.advance us).sts.hold = some (n - (s.subUs + us) / 1000)) ∧
    (s.advance us).disc = s.disc ∧ (s.advance us).sec = s.sec ∧ (s.advance us).events = s.events ∧
    (s.advance us).cap = s.cap ∧
    ∀ g : Fin 2, (s.advance us).sync[g] = { s.sync[g] with crossTimer := s.sync[g].crossTimer.map (· - us) })

/-- CLOCK_FAIL (R13, R14, R114, R143, R145): conversions are abandoned, a GOOD channel becomes STALE, both syncs are
LOST, no group fires, the station is SAFE, and the backup logic trips every breaker that reads closed. CLOCK_GOOD (R15,
R16, R137, R138): the frame timer starts, CLOCK_FAIL clears, and the address straps are read where this reset has not
read them; an address outside 1..250 disables both ports, each in SYNCING, without an event even where it had reached
IN_SYNC, and with its undecodable run 0 (the model's choices, log 43). That the first frame's conversions start with the
frame timer is the model's choice (log 6). -/
def Obligations.ClockStateChanges : Prop :=
  (∀ s : State, s.clockFailDue = true → s.sts.clockFail = false →
    ∃ t, exec .clockFail s = .next t ∧ t.aqu.clock = .fail ∧ t.aqu.nextFrame = s.aqu.nextFrame ∧
      t.aqu.latest.number = s.aqu.latest.number ∧
      (∀ c : Fin 17, t.aqu.channels[c].converting = false ∧ t.aqu.channels[c].result = none ∧
        t.aqu.channels[c].held = s.aqu.channels[c].held ∧
        (s.aqu.channels[c].health = .failed →
          t.aqu.channels[c].health = .failed ∧ t.aqu.channels[c].goodRun = 0) ∧
        (s.aqu.channels[c].health ≠ .failed →
          t.aqu.channels[c].health = .stale ∧ t.aqu.channels[c].staleRun = 0) ∧
        (t.reading c).value = (s.reading c).value ∧ (t.reading c).health ≠ .good) ∧
      (∀ g : Fin 2, t.sync[g] =
        { locked := false, lastCross := none, prevCross := none, crossTimer := none, period := none, good := 0, bad := 0, seen := .nothing } ∧
        t.group[g].state.fires = false ∧ t.firingOutput g = none) ∧
      t.sts.clockFail = true ∧ t.sts.mode = .safe ∧ t.sts.complete = s.sts.complete ∧
      (s.sts.mode ≠ .safe → t.sts.run = false) ∧
      (∀ k : Fin 6, t.tripLine k = s.bfb[k].reported ∧ t.closeLine k = false ∧ t.ltcLine k = false) ∧
      EventsGrow s.events t.events ∧ t.bfb = s.bfb ∧ t.elapsed = s.elapsed ∧ t.stationTime = s.stationTime ∧
      t.uset = s.uset ∧ t.sst = s.sst ∧ t.cmp = s.cmp ∧ t.term = s.term ∧ t.link = s.link ∧ t.upPort = s.upPort ∧
      t.dnPort = s.dnPort ∧ t.energy = s.energy ∧ t.avg = s.avg ∧ t.pending = s.pending) ∧
  (∀ s : State, s.aqu.clock ≠ .good → s.aqu.goodWindows = 1000 →
    ∃ t, exec .clockGood s = .next t ∧
      t.aqu = { s.aqu with clock := .good, badWindows := 0, stopped := false, channels := t.aqu.channels } ∧
      (∀ c : Fin 17, t.aqu.channels[c] = { s.aqu.channels[c] with converting := true, result := none }) ∧
      t.sts = { s.sts with clockFail := false, address := some (s.sts.address.getD s.straps) } ∧
      t.events = (if s.sts.clockFail = true then
        pushEvent s.events (s.event .sts 0 .safeCause (safeCauseValue .clockFail) 1 .none) else s.events) ∧
      (∀ p : Port, t.port p =
        if s.sts.address = none ∧ (s.straps.toNat = 0 ∨ 250 < s.straps.toNat) then
          { s.port p with disabled := true, state := .syncing, undecodable := 0 }
        else s.port p) ∧
      t = { s with aqu := t.aqu, sts := t.sts, events := t.events, upPort := t.upPort, dnPort := t.dnPort })

-- ===================================================================== discriminators (chapter 2)

/-- The discriminator on a frame record (R21, R23, R24): on a counted frame the filtered current moves by a quarter of
its difference from the raw current, truncated toward zero, the slope is the change over four counted frames, and the
history advances, whatever the state of the feeder. A record that marks IFk STALE is not counted. -/
def Obligations.FilterRunsOnCountedFrames : Prop :=
  ∀ (k : Fin 6) (s : State),
    ((s.reading (chIF k)).health = .stale → (s.feederFrame k).disc = s.disc) ∧
    ((s.reading (chIF k)).health ≠ .stale →
      (s.feederFrame k).disc[k].filtered =
        s.disc[k].filtered + ((s.reading (chIF k)).value - s.disc[k].filtered).tdiv 4 ∧
      (s.feederFrame k).disc[k].history =
        ((s.feederFrame k).disc[k].filtered :: s.disc[k].history).take 4 ∧
      (∀ o, s.disc[k].history[3]? = some o →
        (s.feederFrame k).disc[k].slope = (s.feederFrame k).disc[k].filtered - o) ∧
      (s.disc[k].history[3]? = none → (s.feederFrame k).disc[k].slope = 0) ∧
      (s.feederFrame k).disc[k].frame = s.aqu.latest.number ∧
      (s.feederFrame k).disc[k].groupInUse = (if s.sec[k].double = true then .a else .b) ∧
      ∀ j : Fin 6, j ≠ k → (s.feederFrame k).disc[j] = s.disc[j])

/-- The elements on an active counted frame (R27, R28, R29, R30, R34): the IMAX run and the definite-time counter follow
their levels; DELTA_I is true while a rise of DI_SET at least has lasted DI_TIME at least; the trip handed is the first
true element in the order IMAX, DELTA_I, DEF_TIME, at most one until the next close, with the number of the record;
inside the close-onto-fault window, and in CLOSING, DELTA_I is not true and a trip carries the SOTF mark. -/
def Obligations.ElementsTripInOrder : Prop :=
  ∀ (d : Disc) (st : FState) (g : SetGroup) (c : GroupCfg) (r : Reading) (n : Word32),
    (st = .closing ∨ st = .closed) → r.health ≠ .failed →
    let o := d.frameStep st g c r n
    let held : Bool := d.windowOpen || st == .closing
    let deltaI : Prop :=
      held = false ∧ o.1.rising = true ∧ 4 * c.diTime ≤ o.1.elapsed ∧ ∃ i ∈ o.1.rise, (c.diSet : Int) ≤ i
    o.1.imaxRun = (if (c.imax : Int) ≤ r.value then min 2 (d.imaxRun + 1) else 0) ∧
    o.1.dtCount =
      (if (c.iDt : Int) ≤ o.1.filtered then min 240000 (d.dtCount + 1)
       else if o.1.filtered < (c.iDt : Int) - ((c.iDt / 20 : Nat) : Int) then 0 else d.dtCount) ∧
    (d.tripGiven = true → o.2.2 = none) ∧
    (d.tripGiven = false →
      (o.1.imaxRun = 2 → o.2.2 = some { element := .imax, sotf := held, quantity := r.value, frame := n }) ∧
      (o.1.imaxRun ≠ 2 → ∀ i : Int,
        o.1.rising = true → o.1.rise = some i → (c.diSet : Int) ≤ i → 4 * c.diTime ≤ o.1.elapsed → held = false →
        o.2.2 = some { element := .deltaI, sotf := false, quantity := i, frame := n }) ∧
      (o.1.imaxRun ≠ 2 → ¬ deltaI → 4 * c.tDt ≤ o.1.dtCount →
        o.2.2 = some { element := .defTime, sotf := held, quantity := o.1.filtered, frame := n }) ∧
      (o.1.imaxRun ≠ 2 → ¬ deltaI → o.1.dtCount < 4 * c.tDt → o.2.2 = none)) ∧
    o.1.tripGiven = (d.tripGiven || o.2.2.isSome)

/-- An own-protection trip handed by the discriminator (R31, R50, R63, R68): in CLOSED or CLOSING it sets intertrip_out
and takes the feeder to OPENING; with the SOTF mark the destination is LOCKED_OUT with cause SOTF, otherwise DECIDE. In
any other state it is not taken. The event carries the capture store's answer to the trigger TRIP_k (R186). -/
def Obligations.OwnTripOpensFeeder : Prop :=
  ∀ (k : Fin 6) (t : Trip) (s : State),
    (s.feeder[k].state ≠ .closed → s.feeder[k].state ≠ .closing → s.ownTrip k t = s) ∧
    (s.feeder[k].state = .closed ∨ s.feeder[k].state = .closing →
      (s.ownTrip k t).feeder[k] = { s.feeder[k] with
        state := .opening, origin := .own, element := t.element, sotf := t.sotf, phase := none, manual := false
        dest := some (if t.sotf = true then .lockedOut else .decide)
        lockCause := if t.sotf = true then .sotf else s.feeder[k].lockCause
        blockCause := .none, timer := some (s.general k).tOpenMax, tripAt := s.elapsed } ∧
      (s.ownTrip k t).disc[k] = { s.disc[k] with
        rising := false, rise := none, imaxRun := 0, dtCount := 0, window := 0, windowOpen := false } ∧
      (s.ownTrip k t).sec[k] = { s.sec[k] with itOut := true, role := .none } ∧
      (∀ j : Fin 6, j ≠ k → (s.ownTrip k t).feeder[j] = s.feeder[j] ∧ (s.ownTrip k t).disc[j] = s.disc[j] ∧
        (s.ownTrip k t).sec[j] = s.sec[j]) ∧
      ((s.ownTrip k t).events =
        pushEvent
          (if s.sec[k].itOut = true then s.events
           else pushEvent s.events
             (s.event .sco (k.val + 1) .intertripSent (BitVec.ofNat 16 (k.val + 1)) 0 .none))
          (s.event .fpu (k.val + 1) .tripFeeder (BitVec.ofNat 16 (1 * 256 + t.element.code))
            (BitVec.ofInt 16 t.quantity) (s.trigger (srcTrip k)).2)) ∧
      s.ownTrip k t = { s with
        feeder := (s.ownTrip k t).feeder, disc := (s.ownTrip k t).disc, sec := (s.ownTrip k t).sec
        events := (s.ownTrip k t).events, cap := (s.trigger (srcTrip k)).1.cap })

-- ===================================================================== feeder timers (chapters 2 and 4)

/-- SOTF_WINDOW_END (R33), RECLAIM_EXPIRY (R74) and SETTLE_EXPIRY (R75): each changes one record and nothing else. No
expiry of the sequence timer (R60) acts while the timer has not run out: that it is a command which finds the timer at 0
is the model's choice (log 1). CLOSE_TIMER_EXPIRY with the breaker still open (R61, R81): the feeder is LOCKED_OUT with
cause CLOSE_FAIL. -/
def Obligations.FeederTimersExpire : Prop :=
  (∀ (k : Fin 6) (s : State),
    (s.disc[k].windowOpen = true → s.disc[k].window = 0 →
      exec (.sotfWindowEnd k) s =
        .next { s with disc := s.disc.set k { s.disc[k] with windowOpen := false } }) ∧
    (s.quiet = true → s.feeder[k].state = .closed → s.feeder[k].timer = some 0 →
      exec (.reclaimExpiry k) s =
        .next { s with feeder := s.feeder.set k { s.feeder[k] with attempt := 0, timer := none } }) ∧
    (s.quiet = true → s.feeder[k].state = .lineTest → s.feeder[k].phase = some .settle → s.feeder[k].timer = some 0 →
      exec (.settleExpiry k) s =
        .next { s with feeder := s.feeder.set k
                         { s.feeder[k] with
                           phase := some .window, timer := none, sumUl := 0, sumUb := 0, count := 0 } }) ∧
    (s.quiet = true → s.feeder[k].timer ≠ some 0 →
      ∀ c ∈ [Instr.closeTimerExpiry k, .openTimerExpiry k, .deadTimeExpiry k, .reclaimExpiry k, .settleExpiry k,
        .retryExpiry k, .tWaitExpiry k], exec c s = .next s)) ∧
  (∀ (k : Fin 6) (s : State), s.quiet = true → s.feeder[k].state = .closing → s.feeder[k].timer = some 0 →
    s.bfb[k].reported = false →
    ∃ t, exec (.closeTimerExpiry k) s = .next t ∧ FeederOnly k s t ∧
      t.feeder[k] = { s.feeder[k] with
        state := .lockedOut, lockCause := .closeFail, timer := none, phase := none, dest := none, manual := false
        blockCause := .none } ∧
      t.disc[k] = { s.disc[k] with
        rising := false, rise := none, imaxRun := 0, dtCount := 0, window := 0, windowOpen := false } ∧
      t.sec[k] = { s.sec[k] with role := .none } ∧
      t.events = pushEvent s.events
        (s.event .fpu (k.val + 1) .lockout (BitVec.ofNat 16 LockCause.closeFail.code)
          (BitVec.ofNat 16 s.feeder[k].attempt) .none))

/-- OPEN_TIMER_EXPIRY with the breaker still closed (R59, R65, R83, R143, R144): BREAKER_FAIL, LOCKED_OUT with cause BF
whatever the destination, TRIP_k still asserted, and the station SAFE with every other feeder tripped or blocked.
BREAKER_FAIL carries T_OPEN_MAX as the setting stands at the expiry, which is the model's reading (log 33). The trips
and the entry to SAFE are handed to the capture store (R186), and STATION_MODE carries its answer; that the trips are
handed by ascending feeder is the model's reading (log 32). -/
def Obligations.BreakerFailureTakesStationSafe : Prop :=
  ∀ (k : Fin 6) (s : State), s.quiet = true → s.feeder[k].state = .opening → s.feeder[k].timer = some 0 →
    s.bfb[k].reported = true → s.sts.complete = true → s.sts.mode ≠ .safe → s.sts.breakerFail[k] = false →
    ∃ t, exec (.openTimerExpiry k) s = .next t ∧
      t.feeder[k] = { s.feeder[k] with
        state := .lockedOut, lockCause := .bf, timer := none, phase := none, dest := none, manual := false
        blockCause := .none } ∧
      t.tripLine k = true ∧ t.sts.mode = .safe ∧ t.sts.run = false ∧ t.sts.breakerFail[k] = true ∧
      (∀ j : Fin 6, t.sec[j].itOut = true) ∧
      (∀ j : Fin 6, j ≠ k →
        (t.feeder[j].state = .opening ∧
          (t.feeder[j].dest = some .lockedOut ∨
            (t.feeder[j].dest = some .blocked ∧ t.feeder[j].blockCause = .station))) ∨
        t.feeder[j].state = .blocked ∨ t.feeder[j].state = .lockedOut) ∧
      (∀ g : Fin 2, t.group[g].state.fires = false ∧ t.group[g].state ≠ .blocked) ∧
      EventsGrow
        (pushEvent s.events
          (s.event .fpu (k.val + 1) .breakerFail (BitVec.ofNat 16 s.feeder[k].origin.code)
            (BitVec.ofNat 16 (s.general k).tOpenMax) .none))
        t.events ∧
      (let trips := ((feeders6.filter fun j => s.feeder[j].state == .closed || s.feeder[j].state == .closing).map
          srcTrip).foldl (fun s n => (s.trigger n).1) s
       t.cap = (trips.trigger srcStation).1.cap ∧
       t.events.getLast? = some (s.event .sts 0 .stationMode (BitVec.ofNat 16 Mode.safe.code)
         (BitVec.ofNat 16 (modeCauseCode .safe)) (trips.trigger srcStation).2)) ∧
      t = { s with
        feeder := t.feeder, disc := t.disc, sec := t.sec, group := t.group, sts := t.sts, events := t.events
        cap := t.cap }

/-- OPEN_TIMER_EXPIRY with the breaker open already, and BFB_k releasing before it (BFB_FILTER_EXPIRY): the opening is
complete, BREAKER_OPENED is logged with T_OPEN_MAX or the milliseconds since TRIP_k was asserted, and the attempt
decision of an own trip gives the next dead time while attempts remain (R64, R70). T_OPEN_MAX is the setting as it
stands at the expiry, which is the model's reading (log 33). The manual's N_AR is at most 3, so the counter is too. The
same opening where the attempt decision finds no attempt (R70, R81): an IMAX trip with AR_ON_IMAX no locks the feeder
out with cause NO_AR_IMAX, whatever the counter, and any other own trip whose counter has reached the effective limit
with cause AR_EXHAUSTED. The counter stays. T_OPEN_MAX in BREAKER_OPENED is the setting as it stands (log 33). -/
def Obligations.OpeningCompletesToDeadTime : Prop :=
  (∀ (k : Fin 6) (s : State), s.quiet = true → s.feeder[k].state = .opening →
    s.feeder[k].dest = some .decide → (s.feeder[k].element ≠ .imax ∨ (s.general k).arOnImax = true) →
    s.feeder[k].attempt < (if s.sts.present = true then (s.general k).nAr else min (s.general k).nAr 1) →
    s.sts.complete = true →
    let dt := if s.feeder[k].attempt = 0 then (s.general k).dt1 else if s.feeder[k].attempt = 1 then (s.general k).dt2
      else (s.general k).dt3
    let f := { s.feeder[k] with
      state := .deadTime, attempt := s.feeder[k].attempt + 1, timer := some dt, phase := none, dest := none
      manual := false, blockCause := .none }
    let q (ms : Nat) := pushEvent
      (pushEvent s.events
        (s.event .fpu (k.val + 1) .breakerOpened (BitVec.ofNat 16 s.feeder[k].origin.code) (BitVec.ofNat 16 ms) .none))
      (s.event .fpu (k.val + 1) .recloseAttempt (BitVec.ofNat 16 (s.feeder[k].attempt + 1)) (BitVec.ofNat 16 dt) .none)
    (s.feeder[k].timer = some 0 → s.bfb[k].reported = false →
      exec (.openTimerExpiry k) s = .next { s with
        feeder := s.feeder.set k f, sec := s.sec.set k { s.sec[k] with role := .none }
        events := q (s.general k).tOpenMax }) ∧
    (s.bfb[k].filter = some 0 → s.bfb[k].settled = true → s.bfb[k].raw = false → s.sts.breakerFail[k] = false →
      exec (.bfbFilterExpiry k) s = .next { s with
        feeder := s.feeder.set k f, sec := s.sec.set k { s.sec[k] with role := .none }
        events := q (min 65535 (s.elapsed - s.feeder[k].tripAt).toNat)
        bfb := s.bfb.set k { s.bfb[k] with reported := false, filter := none } })) ∧
  (∀ (k : Fin 6) (c : Instr) (ms : Nat) (b : Bfb) (s : State), s.quiet = true → s.feeder[k].state = .opening →
    s.sts.complete = true → s.feeder[k].dest = some .decide →
    ((c = .openTimerExpiry k ∧ s.feeder[k].timer = some 0 ∧ s.bfb[k].reported = false ∧ b = s.bfb[k] ∧
        ms = (s.general k).tOpenMax) ∨
      (c = .bfbFilterExpiry k ∧ s.bfb[k].filter = some 0 ∧ s.bfb[k].settled = true ∧ s.bfb[k].raw = false ∧
        s.sts.breakerFail[k] = false ∧ b = { s.bfb[k] with reported := false, filter := none } ∧
        ms = min 65535 (s.elapsed - s.feeder[k].tripAt).toNat)) →
    let locked (cause : LockCause) : State := { s with
      feeder := s.feeder.set k { s.feeder[k] with
                                 state := .lockedOut, lockCause := cause, timer := none, phase := none, dest := none
                                 manual := false, blockCause := .none }
      sec := s.sec.set k { s.sec[k] with role := .none }, bfb := s.bfb.set k b
      events := pushEvent
        (pushEvent s.events
          (s.event .fpu (k.val + 1) .breakerOpened (BitVec.ofNat 16 s.feeder[k].origin.code) (BitVec.ofNat 16 ms) .none))
        (s.event .fpu (k.val + 1) .lockout (BitVec.ofNat 16 cause.code) (BitVec.ofNat 16 s.feeder[k].attempt) .none) }
    (s.feeder[k].element = .imax → (s.general k).arOnImax = false → exec c s = .next (locked .noArImax)) ∧
    (s.feeder[k].element ≠ .imax ∨ (s.general k).arOnImax = true →
      (if s.sts.present = true then (s.general k).nAr else min (s.general k).nAr 1) ≤ s.feeder[k].attempt →
      exec c s = .next (locked .arExhausted)))

/-- DEAD_TIME_EXPIRY on a line that is not live (R53, R72): the section coordinator's role decides. Without an enabled
partner or with its link DOWN this end leads; it follows a partner that tests, and a partner that reads OPEN with origin
OWN and has the lower address; otherwise it leads. A follower enters WAIT_PARTNER; a leader, whose line can be tested,
enters LINE_TEST. The premise on the summary is what R46 keeps: a partner that reads TESTING has its link UP. -/
def Obligations.DeadTimeElectsRole : Prop :=
  ∀ (k : Fin 6) (s : State), s.quiet = true → s.feeder[k].state = .deadTime → s.feeder[k].timer = some 0 →
    s.lineLive k = false →
    (s.sec[k].summary = .testing → ∃ j, s.cfg.sections[k].partner = some j ∧ s.cfg.partners[j].enabled = true ∧
      s.link[j].up = true) →
    let follows : Prop := ∃ j, s.cfg.sections[k].partner = some j ∧ s.cfg.partners[j].enabled = true ∧
      s.link[j].up = true ∧
      (s.sec[k].summary = .testing ∨
        (s.sec[k].summary = .open ∧ s.sec[k].porigin = .own ∧
          ∃ a, s.sts.address = some a ∧ s.cfg.partners[j].address < a.toNat))
    (follows → exec (.deadTimeExpiry k) s = .next { s with
      feeder := s.feeder.set k { s.feeder[k] with
                                 state := .waitPartner, timer := some ((s.general k).tWait * 1000), phase := none
                                 dest := none, blockCause := .none }
      sec := s.sec.set k { s.sec[k] with role := .follower } }) ∧
    (¬ follows → s.bfb[k].reported = false → s.feeder[k].lost = false →
      s.aqu.channels[chUL k].health ≠ .failed →
      exec (.deadTimeExpiry k) s = .next { s with
        feeder := s.feeder.set k { s.feeder[k] with
                                   state := .lineTest, phase := some .settle, invalid := 0
                                   timer := some (s.general k).tLtSettle, dest := none, blockCause := .none }
        sec := s.sec.set k { s.sec[k] with role := .leader } })

/-- A live line closes without a test (R61, R72, R80): DEAD_TIME_EXPIRY, and LIVE_LINE in WAIT_PARTNER, enter CLOSING
with close path LIVE. RETRY_EXPIRY and T_WAIT_EXPIRY (R54, R75, R78, R80): the feeder enters LINE_TEST in phase SETTLE
as leader, the invalid count kept by a retry and 0 otherwise, where the line can be tested and no lower station tests
it. -/
def Obligations.LiveLineClosesRetryTests : Prop :=
  (∀ (k : Fin 6) (s : State), s.feeder[k].liveRun = 400 → s.sec[k].summary = .closed →
    let t := { s with
      feeder := s.feeder.set k { s.feeder[k] with
                                 state := .closing, path := .live, timer := some (s.general k).tCloseMax, phase := none
                                 dest := none, blockCause := .none }
      disc := s.disc.set k { s.disc[k] with
                             rising := false, rise := none, imaxRun := 0, dtCount := 0, tripGiven := false }
      sec := s.sec.set k { s.sec[k] with role := .none } }
    (s.quiet = true → s.feeder[k].state = .deadTime → s.feeder[k].timer = some 0 →
      exec (.deadTimeExpiry k) s = .next t) ∧
    (s.feeder[k].state = .waitPartner → exec (.liveLine k) s = .next t)) ∧
  (∀ (k : Fin 6) (s : State), s.quiet = true → s.feeder[k].timer = some 0 → s.bfb[k].reported = false →
    s.feeder[k].lost = false → s.aqu.channels[chUL k].health ≠ .failed → s.sec[k].summary ≠ .testing →
    let f := { s.feeder[k] with
      state := .lineTest, phase := some .settle, timer := some (s.general k).tLtSettle, dest := none
      blockCause := .none }
    (s.feeder[k].state = .lineTest → s.feeder[k].phase = some .retry →
      exec (.retryExpiry k) s = .next { s with
        feeder := s.feeder.set k f, sec := s.sec.set k { s.sec[k] with role := .leader } }) ∧
    (s.feeder[k].state = .waitPartner →
      exec (.tWaitExpiry k) s = .next { s with
        feeder := s.feeder.set k { f with invalid := 0 }, sec := s.sec.set k { s.sec[k] with role := .leader } }))

/-- LINE_TEST_WINDOW_COMPLETE with a bus voltage high enough (R76, R77): Rline is (Rt × Ul) / (Ub − Ul) in milliohms, at
most 65535; from RLT_MIN on the test passes and the feeder enters CLOSING with close path TESTED; below it an automatic
test takes the attempt decision, here with an attempt left, and a manual one returns to OPEN. LINE_TEST_WINDOW_COMPLETE
without a pass and without an attempt (R70, R76, R77, R78, R81). A failed automatic test whose counter has reached the
effective limit locks the feeder out with cause LT_FAILED. A bus voltage below UB_LT_MIN makes the test INVALID: the
breaker open, a manual test returns to OPEN, an automatic one is tried again after 1 s, and the third in succession
locks out with cause LT_INVALID; a breaker that reads closed is adopted (R67), with the cause none in its event (log
17). No attempt is consumed. -/
def Obligations.LineTestWindowDecides : Prop :=
  (∀ (k : Fin 6) (s : State), s.feeder[k].state = .lineTest → s.feeder[k].phase = some .window →
    s.feeder[k].count = 64 → s.station.ubLtMin ≤ s.feeder[k].sumUb / 64 →
    let ul := s.feeder[k].sumUl / 64
    let ub := s.feeder[k].sumUb / 64
    let rl := if ul < ub then min 65535 ((s.general k).rt * ul / (ub - ul)) else 65535
    let rec0 (o : TestOutcome) : TestRecord :=
      { outcome := o, rline := rl, values := some { ul := ul, ub := ub, frame := s.aqu.latest.number } }
    let f (o : TestOutcome) : Feeder := { s.feeder[k] with
      lastTest := some (rec0 o), liveRun := 0, invalid := 0, phase := none, dest := none, blockCause := .none }
    let q (o : TestOutcome) : List Event := pushEvent s.events
      (s.event .fpu (k.val + 1) .lineTestResult (BitVec.ofNat 16 rl) (BitVec.ofNat 16 o.code) .none)
    ((s.general k).rltMin ≤ rl →
      exec (.lineTestWindowComplete k) s = .next { s with
        feeder := s.feeder.set k
          { f .pass with state := .closing, path := .tested, timer := some (s.general k).tCloseMax }
        disc := s.disc.set k
          { s.disc[k] with rising := false, rise := none, imaxRun := 0, dtCount := 0, tripGiven := false }
        sec := s.sec.set k { s.sec[k] with role := .none }, events := q .pass }) ∧
    (rl < (s.general k).rltMin → s.feeder[k].manual = true →
      exec (.lineTestWindowComplete k) s = .next { s with
        feeder := s.feeder.set k { f .fail with state := .open, timer := none, manual := false }
        sec := s.sec.set k { s.sec[k] with role := .none }, events := q .fail }) ∧
    (rl < (s.general k).rltMin → s.feeder[k].manual = false → s.feeder[k].attempt < s.effectiveLimit k →
      exec (.lineTestWindowComplete k) s = .next { s with
        feeder := s.feeder.set k { f .fail with
                                   state := .deadTime, attempt := s.feeder[k].attempt + 1
                                   timer := some ((s.general k).deadTime (s.feeder[k].attempt + 1)) }
        sec := s.sec.set k { s.sec[k] with role := .none }
        events := pushEvent (q .fail)
          (s.event .fpu (k.val + 1) .recloseAttempt (BitVec.ofNat 16 (s.feeder[k].attempt + 1))
            (BitVec.ofNat 16 ((s.general k).deadTime (s.feeder[k].attempt + 1))) .none) })) ∧
  (∀ (k : Fin 6) (s : State), s.feeder[k].state = .lineTest → s.feeder[k].phase = some .window → s.feeder[k].count = 64 →
    let ul := s.feeder[k].sumUl / 64
    let ub := s.feeder[k].sumUb / 64
    let rl := if ul < ub then min 65535 ((s.general k).rt * ul / (ub - ul)) else 65535
    let f (o : TestOutcome) : Feeder := { s.feeder[k] with
      lastTest := some { outcome := o, rline := rl, values := some { ul := ul, ub := ub, frame := s.aqu.latest.number } }
      liveRun := 0, phase := none, dest := none, blockCause := .none, timer := none, manual := false }
    let q (o : TestOutcome) : List Event := pushEvent s.events
      (s.event .fpu (k.val + 1) .lineTestResult (BitVec.ofNat 16 rl) (BitVec.ofNat 16 o.code) .none)
    let left (f : Feeder) (r : Role) (q : List Event) : State := { s with
      feeder := s.feeder.set k f, sec := s.sec.set k { s.sec[k] with role := r }, events := q }
    let lockout (c : LockCause) : Event :=
      s.event .fpu (k.val + 1) .lockout (BitVec.ofNat 16 c.code) (BitVec.ofNat 16 s.feeder[k].attempt) .none
    let invalid : Nat := min 3 (s.feeder[k].invalid + 1)
    (s.station.ubLtMin ≤ ub → rl < (s.general k).rltMin → s.feeder[k].manual = false →
      (if s.sts.present = true then (s.general k).nAr else min (s.general k).nAr 1) ≤ s.feeder[k].attempt →
      exec (.lineTestWindowComplete k) s = .next
        (left { f .fail with state := .lockedOut, lockCause := .ltFailed, invalid := 0 } .none
          (pushEvent (q .fail) (lockout .ltFailed)))) ∧
    (ub < s.station.ubLtMin →
      (s.bfb[k].reported = false → s.feeder[k].manual = true →
        exec (.lineTestWindowComplete k) s = .next (left { f .invalid with state := .open } .none (q .invalid))) ∧
      (s.bfb[k].reported = false → s.feeder[k].manual = false → s.feeder[k].invalid < 2 →
        exec (.lineTestWindowComplete k) s = .next
          (left { f .invalid with phase := some .retry, invalid := invalid, timer := some 1000 } .leader (q .invalid))) ∧
      (s.bfb[k].reported = false → s.feeder[k].manual = false → 2 ≤ s.feeder[k].invalid →
        exec (.lineTestWindowComplete k) s = .next
          (left { f .invalid with state := .lockedOut, lockCause := .ltInvalid, invalid := 3 } .none
            (pushEvent (q .invalid) (lockout .ltInvalid)))) ∧
      (s.bfb[k].reported = true →
        exec (.lineTestWindowComplete k) s = .next { s with
          feeder := s.feeder.set k { f .invalid with
                                     state := .closed, origin := .none, element := .none, sotf := false
                                     invalid := if s.feeder[k].manual = true then s.feeder[k].invalid else invalid
                                     timer := some ((s.general k).tReclaim * 1000) }
          disc := s.disc.set k
            { s.disc[k] with rising := false, rise := none, imaxRun := 0, dtCount := 0, tripGiven := false }
          sec := s.sec.set k { s.sec[k] with role := .none, itOut := false }
          events := pushEvent (q .invalid)
            (s.event .fpu (k.val + 1) .breakerClosedLocal (BitVec.ofNat 16 FState.lineTest.code)
              (BitVec.ofNat 16 LockCause.none.code) .none) })))

-- ===================================================================== breaker feedback (chapters 4 and 8)

/-- BFB_RAW_CHANGE and the first BFB_FILTER_EXPIRY after reset (R158): a raw level that differs from the reported one
starts a filter run of ten windows of 100 µs, one that returns to it discards the run, and the first millisecond after
reset sets the reported level without a change. BFB_FILTER_EXPIRY that reports the breaker closed in CLOSING (R33, R50,
R62): the feeder is CLOSED, its reclaim time and close-onto-fault window run, intertrip_out is clear, and BREAKER_CLOSED
carries the manual mark and the path. BFB_k reported released in OPENING, and OPEN_TIMER_EXPIRY with the breaker open
(R64): BREAKER_OPENED, and the feeder goes to its destination OPEN, BLOCKED with the recorded cause, LOCKED_OUT with the
recorded cause (R81), or WAIT_PARTNER, which a feeder whose partner link is DOWN leaves at once for a line test as
leader (R80); a line that cannot be tested ends that test INVALID at once, to be tried again after 1 s (R75, R78), its
record without values (log 15). At the expiry BREAKER_OPENED carries T_OPEN_MAX as it stands then (log 33). BFB_k
reported released without an opening commanded (R66): in CLOSED an own trip with element EXTERNAL, destination DECIDE
and the SOTF mark clear, which sets intertrip_out (R50); its trip quantity is 0 by the model's reading of R174 (log 8).
In LOCKED_OUT with cause BF the failed breaker has opened at last: TRIP_k is released, BREAKER_OPENED logged and the
SAFE cause cleared (R143). BFB_k reported asserted without a close commanded (R67): outside SAFE the breaker is adopted
CLOSED from OPEN, LOCKED_OUT, DEAD_TIME and WAIT_PARTNER, and from LINE_TEST, whose test ends INVALID (R78; without
values, log 15), without a close-onto-fault window; in SAFE it is opened again with origin STATION. From BLOCKED outside
SAFE it is opened again with origin MANUAL: that BREAKER_CLOSED_LOCAL is logged there too is the model's choice (log
36), as is the cause none it carries from a state other than LOCKED_OUT (log 17). -/
def Obligations.BreakerFeedbackReported : Prop :=
  (∀ (k : Fin 6) (level : Bool) (s : State), s.quiet = true →
    (s.bfb[k].raw = level → exec (.bfbRawChange k level) s = .next s) ∧
    (s.bfb[k].raw ≠ level → s.bfb[k].settled = true →
      exec (.bfbRawChange k level) s = .next { s with
        bfb := s.bfb.set k
          { s.bfb[k] with raw := level, filter := if level = s.bfb[k].reported then none else some 10 } }) ∧
    (s.bfb[k].raw ≠ level → s.bfb[k].settled = false →
      exec (.bfbRawChange k level) s = .next { s with bfb := s.bfb.set k { s.bfb[k] with raw := level } }) ∧
    (s.bfb[k].settled = false → s.bfb[k].filter = some 0 →
      exec (.bfbFilterExpiry k) s = .next { s with
        bfb := s.bfb.set k { s.bfb[k] with reported := s.bfb[k].raw, settled := true, filter := none } }) ∧
    (s.bfb[k].filter ≠ some 0 → exec (.bfbFilterExpiry k) s = .next s)) ∧
  (∀ (k : Fin 6) (s : State), s.quiet = true → s.sts.complete = true → s.feeder[k].state = .closing →
    s.bfb[k].filter = some 0 → s.bfb[k].settled = true → s.bfb[k].raw = true →
    exec (.bfbFilterExpiry k) s = .next { s with
      bfb := s.bfb.set k { s.bfb[k] with reported := true, filter := none }
      feeder := s.feeder.set k { s.feeder[k] with
                                 state := .closed, origin := .none, element := .none, sotf := false, phase := none
                                 dest := none, blockCause := .none, manual := false
                                 attempt := if s.feeder[k].manual = true then 0 else s.feeder[k].attempt
                                 timer := some ((s.general k).tReclaim * 1000) }
      disc := s.disc.set k { s.disc[k] with window := 2000, windowOpen := true }
      sec := s.sec.set k { s.sec[k] with role := .none, itOut := false }
      events := pushEvent s.events
        (s.event .fpu (k.val + 1) .breakerClosed (BitVec.ofNat 16 (if s.feeder[k].manual = true then 1 else 0))
          (BitVec.ofNat 16 s.feeder[k].path.code) .none) }) ∧
  (∀ (k : Fin 6) (c : Instr) (ms : Nat) (b : Bfb) (s : State), s.quiet = true → s.feeder[k].state = .opening →
    s.sts.complete = true →
    ((c = .openTimerExpiry k ∧ s.feeder[k].timer = some 0 ∧ s.bfb[k].reported = false ∧ b = s.bfb[k] ∧
        ms = (s.general k).tOpenMax) ∨
      (c = .bfbFilterExpiry k ∧ s.bfb[k].filter = some 0 ∧ s.bfb[k].settled = true ∧ s.bfb[k].raw = false ∧
        s.sts.breakerFail[k] = false ∧ b = { s.bfb[k] with reported := false, filter := none } ∧
        ms = min 65535 (s.elapsed - s.feeder[k].tripAt).toNat)) →
    let f := { s.feeder[k] with phase := none, dest := none, manual := false, blockCause := .none, timer := none }
    let q := pushEvent s.events
      (s.event .fpu (k.val + 1) .breakerOpened (BitVec.ofNat 16 s.feeder[k].origin.code) (BitVec.ofNat 16 ms) .none)
    let t (f : Feeder) (r : Role) (q : List Event) : State := { s with
      feeder := s.feeder.set k f, sec := s.sec.set k { s.sec[k] with role := r }, events := q, bfb := s.bfb.set k b }
    let down : Prop := ∃ j, s.cfg.sections[k].partner = some j ∧ s.cfg.partners[j].enabled = true ∧ s.link[j].up = false
    (s.feeder[k].dest = some .open → exec c s = .next (t { f with state := .open } .none q)) ∧
    (s.feeder[k].dest = some .blocked →
      exec c s = .next (t { f with state := .blocked, blockCause := s.feeder[k].blockCause } .none q)) ∧
    (s.feeder[k].dest = some .lockedOut →
      exec c s = .next (t { f with state := .lockedOut } .none
        (pushEvent q (s.event .fpu (k.val + 1) .lockout (BitVec.ofNat 16 s.feeder[k].lockCause.code)
          (BitVec.ofNat 16 s.feeder[k].attempt) .none)))) ∧
    (s.feeder[k].dest = some .waitPartner → ¬ down →
      exec c s = .next (t { f with
        state := .waitPartner, timer := some ((s.general k).tWait * 1000), manual := s.feeder[k].manual } .follower q)) ∧
    (s.feeder[k].dest = some .waitPartner → down → s.feeder[k].lost = false →
      s.aqu.channels[chUL k].health ≠ .failed → s.sec[k].summary ≠ .testing →
      exec c s = .next (t { f with
        state := .lineTest, phase := some .settle, invalid := 0, timer := some (s.general k).tLtSettle
        manual := s.feeder[k].manual } .leader q)) ∧
    (s.feeder[k].dest = some .waitPartner → down → s.feeder[k].manual = false →
      (s.feeder[k].lost = true ∨ s.aqu.channels[chUL k].health = .failed) → s.sec[k].summary ≠ .testing →
      exec c s = .next (t { f with
        state := .lineTest, phase := some .retry, invalid := 1, timer := some 1000, liveRun := 0
        lastTest := some { outcome := .invalid, rline := 0, values := none } } .leader
        (pushEvent q
          (s.event .fpu (k.val + 1) .lineTestResult 0 (BitVec.ofNat 16 TestOutcome.invalid.code) .none))))) ∧
  (∀ (k : Fin 6) (s : State), s.quiet = true → s.sts.complete = true → s.bfb[k].filter = some 0 →
    s.bfb[k].settled = true → s.bfb[k].raw = false →
    let bfb := s.bfb.set k { s.bfb[k] with reported := false, filter := none }
    (s.feeder[k].state = .closed → s.sts.breakerFail[k] = false →
      let q := pushEvent s.events
        (s.event .fpu (k.val + 1) .tripFeeder (BitVec.ofNat 16 (1 * 256 + Element.external.code)) 0
          (s.trigger (srcTrip k)).2)
      exec (.bfbFilterExpiry k) s = .next { s with
          bfb := bfb
          feeder := s.feeder.set k { s.feeder[k] with
                                     state := .opening, origin := .own, element := .external, sotf := false
                                     dest := some .decide, phase := none, manual := false, blockCause := .none
                                     timer := some (s.general k).tOpenMax, tripAt := s.elapsed }
          disc := s.disc.set k { s.disc[k] with
                                 rising := false, rise := none, imaxRun := 0, dtCount := 0, window := 0
                                 windowOpen := false }
          sec := s.sec.set k { s.sec[k] with role := .none, itOut := true }
          events := if s.sec[k].itOut = true then q
            else pushEvent q (s.event .sco (k.val + 1) .intertripSent (BitVec.ofNat 16 (k.val + 1)) 0 .none)
          cap := (s.trigger (srcTrip k)).1.cap }) ∧
    (s.feeder[k].state = .lockedOut → s.feeder[k].lockCause = .bf →
      ∃ t, exec (.bfbFilterExpiry k) s = .next t ∧ t.tripLine k = false ∧
        (let q := pushEvent s.events
           (s.event .fpu (k.val + 1) .breakerOpened (BitVec.ofNat 16 s.feeder[k].origin.code)
             (BitVec.ofNat 16 (min 65535 (s.elapsed - s.feeder[k].tripAt).toNat)) .none)
         t = { s with
           bfb := bfb, sts := { s.sts with breakerFail := s.sts.breakerFail.set k false }
           events := if s.sts.breakerFail[k] = true then
             pushEvent q (s.event .sts 0 .safeCause (safeCauseValue (.breakerFail k)) 1 .none) else q }))) ∧
  (∀ (k : Fin 6) (s : State), s.quiet = true → s.sts.complete = true → s.bfb[k].filter = some 0 →
    s.bfb[k].settled = true → s.bfb[k].raw = true →
    let bfb := s.bfb.set k { s.bfb[k] with reported := true, filter := none }
    let f : Feeder := { s.feeder[k] with
      state := .closed, origin := .none, element := .none, sotf := false, phase := none, dest := none
      blockCause := .none, manual := false, timer := some ((s.general k).tReclaim * 1000) }
    let disc := s.disc.set k { s.disc[k] with
      rising := false, rise := none, imaxRun := 0, dtCount := 0, tripGiven := false }
    let sec := s.sec.set k { s.sec[k] with role := .none, itOut := false }
    let closedLocal (c : LockCause) : Event :=
      s.event .fpu (k.val + 1) .breakerClosedLocal (BitVec.ofNat 16 s.feeder[k].state.code) (BitVec.ofNat 16 c.code) .none
    let opened (o : Origin) (d : Dest) (b : BlockCause) (c : LockCause) : State := { s with
      bfb := bfb
      feeder := s.feeder.set k { s.feeder[k] with
                                 state := .opening, origin := o, element := .none, sotf := false, dest := some d
                                 phase := none, manual := false, blockCause := b
                                 timer := some (s.general k).tOpenMax, tripAt := s.elapsed }
      sec := s.sec.set k { s.sec[k] with role := .none }
      events := pushEvent (pushEvent s.events (closedLocal c))
        (s.event .fpu (k.val + 1) .tripFeeder (BitVec.ofNat 16 (o.code * 256))
          (BitVec.ofInt 16 (s.reading (chIF k)).value) (s.trigger (srcTrip k)).2)
      cap := (s.trigger (srcTrip k)).1.cap }
    (s.sts.mode ≠ .safe →
      (s.feeder[k].state = .open ∨ s.feeder[k].state = .deadTime ∨ s.feeder[k].state = .waitPartner →
        exec (.bfbFilterExpiry k) s = .next { s with
          bfb := bfb, feeder := s.feeder.set k f, disc := disc, sec := sec
          events := pushEvent s.events (closedLocal .none) }) ∧
      (s.feeder[k].state = .lockedOut →
        exec (.bfbFilterExpiry k) s = .next { s with
          bfb := bfb, feeder := s.feeder.set k f, disc := disc, sec := sec
          events := pushEvent s.events (closedLocal s.feeder[k].lockCause) }) ∧
      (s.feeder[k].state = .lineTest →
        exec (.bfbFilterExpiry k) s = .next { s with
          bfb := bfb, disc := disc, sec := sec
          feeder := s.feeder.set k { f with
                                     lastTest := some { outcome := .invalid, rline := 0, values := none }, liveRun := 0
                                     invalid := if s.feeder[k].manual = true then s.feeder[k].invalid
                                       else min 3 (s.feeder[k].invalid + 1) }
          events := pushEvent
            (pushEvent s.events
              (s.event .fpu (k.val + 1) .lineTestResult 0 (BitVec.ofNat 16 TestOutcome.invalid.code) .none))
            (closedLocal .none) }) ∧
      (s.feeder[k].state = .blocked →
        exec (.bfbFilterExpiry k) s = .next (opened .manual .blocked s.feeder[k].blockCause .none))) ∧
    (s.sts.mode = .safe →
      (s.feeder[k].state = .open ∨ s.feeder[k].state = .blocked →
        exec (.bfbFilterExpiry k) s = .next (opened .station .blocked .station .none)) ∧
      (s.feeder[k].state = .lockedOut →
        exec (.bfbFilterExpiry k) s = .next (opened .station .lockedOut .none s.feeder[k].lockCause))))

-- ===================================================================== feeder requests (chapter 4)

/-- READ_FEEDER (R38, R88): answered OK with the discriminator's state and the feeder record as they stand, the attempt
limit as it would be read now, the rise in RISING, the window count in phase WINDOW (R18), and the levels of the
feeder's lines; nothing else changes. READ_SECTIONS (R56): answered OK in every mode with the six sections and the four
partner entries as they stand; intertrip_in is given whole and in its two parts. Nothing changes. READ_GROUPS (R133):
answered OK in every mode with both group and sync records, the restart history as ages in seconds (log 23), the runtime
and the stored set point and the two counts; nothing changes. -/
def Obligations.RecordsReadAsTheyStand : Prop :=
  (∀ (k : Fin 6) (tag : Byte) (s : State), s.ready →
    ∃ v : FeederView, Answers (.readFeeder tag [BitVec.ofNat 8 (k.val + 1)]) s 0x20 tag s.heard .ok (.feeder v) ∧
      v.state = s.feeder[k].state ∧ v.phase = s.feeder[k].phase ∧ v.origin = s.feeder[k].origin ∧
      v.element = s.feeder[k].element ∧ v.sotf = s.feeder[k].sotf ∧ v.dest = s.feeder[k].dest ∧
      v.attempt = s.feeder[k].attempt ∧
      v.limit = (if s.sts.present = true then (s.general k).nAr else min (s.general k).nAr 1) ∧
      v.lockCause = s.feeder[k].lockCause ∧ v.blockCause = s.feeder[k].blockCause ∧ v.manual = s.feeder[k].manual ∧
      v.path = s.feeder[k].path ∧ v.lost = s.feeder[k].lost ∧ v.liveRun = s.feeder[k].liveRun ∧
      v.invalid = s.feeder[k].invalid ∧ v.timer = s.feeder[k].timer ∧ v.lastTest = s.feeder[k].lastTest ∧
      v.close = s.closeLine k ∧ v.trip = s.tripLine k ∧ v.ltc = s.ltcLine k ∧ v.bfb = s.bfb[k].reported ∧
      v.filtered = s.disc[k].filtered ∧ v.slope = s.disc[k].slope ∧ v.rising = s.disc[k].rising ∧
      v.imaxRun = s.disc[k].imaxRun ∧ v.dtCount = s.disc[k].dtCount ∧ v.window = s.disc[k].window ∧
      v.groupInUse = s.disc[k].groupInUse ∧ v.frame = s.disc[k].frame ∧
      (s.feeder[k].phase = some .window → v.count = some s.feeder[k].count) ∧
      (s.feeder[k].phase ≠ some .window → v.count = none) ∧
      (s.disc[k].rising = true → v.riseView = some (s.disc[k].base, s.disc[k].elapsed, s.disc[k].rise)) ∧
      (s.disc[k].rising = false → v.riseView = none)) ∧
  (∀ (tag : Byte) (s : State), s.ready →
    ∃ (vs : List SectionView) (ps : List PartnerView),
      Answers (.readSections tag []) s 0x40 tag s.heard .ok (.sections vs ps) ∧ vs.length = 6 ∧ ps.length = 4 ∧
      (∀ k : Fin 6, vs[k.val]? = some
        { cfg := s.cfg.sections[k], double := s.sec[k].double, active := if s.sec[k].double = true then .a else .b
          itOut := s.sec[k].itOut, itTelegram := s.sec[k].itTelegram, itTerminal := s.sec[k].itTerminal
          itIn := s.sec[k].itTelegram || s.sec[k].itTerminal, summary := s.sec[k].summary
          porigin := s.sec[k].porigin, role := s.sec[k].role }) ∧
      (∀ j : Fin 4, ps[j.val]? = some
        { cfg := s.cfg.partners[j], up := s.link[j].up, lastSeq := s.link[j].lastSeq, mode := s.link[j].mode
          groups := s.link[j].groups })) ∧
  (∀ (tag : Byte) (s : State), s.ready →
    ∃ v : Fin 2 → GroupView,
      Answers (.readGroups tag []) s 0x30 tag s.heard .ok
        (.groups (v 0) (v 1) s.uset s.station.uset (vcount (fun r => r.state.available) s.group)
          (vcount (fun r => r.state == .running) s.group)) ∧
      ∀ g : Fin 2, (v g).state = s.group[g].state ∧ (v g).alpha = s.group[g].alpha ∧
        (v g).next = s.group[g].next.val + 1 ∧ (v g).currentLimit = s.group[g].currentLimit ∧
        (v g).phasedBack = s.group[g].phasedBack ∧ (v g).blockCause = s.group[g].blockCause ∧
        (v g).lockRestarts = s.group[g].lockRestarts ∧ (v g).ocRun = s.group[g].ocRun ∧
        (v g).delay = s.group[g].delay ∧ (v g).last = s.group[g].last ∧ (v g).locked = s.sync[g].locked ∧
        (v g).historyAges = s.group[g].history.map (fun e => (s.elapsed - e).toNat / 1000) ∧
        (v g).period = s.sync[g].period ∧ (v g).good = s.sync[g].good ∧ (v g).bad = s.sync[g].bad ∧
        ((v g).permitted = true ↔ (s.group[g].state = .starting ∨ s.group[g].state = .running) ∧
          s.sync[g].locked = true ∧ (s.sts.mode = .normal ∨ s.sts.mode = .reduced)) ∧
        (GCause.overcurrent ∈ (v g).causes ↔ s.group[g].overcurrent = true) ∧
        (GCause.temp ∈ (v g).causes ↔ s.group[g].temp = true) ∧
        (GCause.channel ∈ (v g).causes ↔ s.group[g].channel = true) ∧
        (GCause.syncLost ∈ (v g).causes ↔ s.sync[g].locked = false))

/-- CLOSE_FEEDER (R84): taken in OPEN with the station in STANDBY, NORMAL or REDUCED, and answered ACCEPTED. A live line
closes at once, MANUAL_LT leads to a line test, and without it the close is direct; the manual mark is set. Otherwise it
is refused with the feeder's state and nothing changes. -/
def Obligations.CloseFeederTakenOrRefused : Prop :=
  ∀ (k : Fin 6) (tag : Byte) (s : State), s.ready →
    let c : Instr := .closeFeeder tag [BitVec.ofNat 8 (k.val + 1)]
    let closing (p : ClosePath) : State := { s.heard with
      feeder := s.feeder.set k { s.feeder[k] with
                                 state := .closing, path := p, timer := some (s.general k).tCloseMax, phase := none
                                 dest := none, blockCause := .none, manual := true
                                 lost := s.feeder[k].lost && s.aqu.channels[chUL k].health == .failed }
      disc := s.disc.set k { s.disc[k] with
                             rising := false, rise := none, imaxRun := 0, dtCount := 0, tripGiven := false }
      sec := s.sec.set k { s.sec[k] with role := .none } }
    let taken : Prop := s.feeder[k].state = .open ∧ s.sts.complete = true ∧
      (s.sts.mode = .standby ∨ s.sts.mode = .normal ∨ s.sts.mode = .reduced)
    (¬ taken → Answers c s 0x21 tag s.heard .refusedState (.feederState s.feeder[k].state)) ∧
    (taken → s.feeder[k].liveRun = 400 → s.sec[k].summary = .closed →
      Answers c s 0x21 tag (closing .live) .accepted .empty) ∧
    (taken → s.lineLive k = false → (s.general k).manualLt = false →
      Answers c s 0x21 tag (closing .direct) .accepted .empty) ∧
    (taken → s.lineLive k = false → (s.general k).manualLt = true → s.bfb[k].reported = false →
      s.aqu.channels[chUL k].health ≠ .failed → s.sec[k].summary ≠ .testing →
      Answers c s 0x21 tag
        { s.heard with
          feeder := s.feeder.set k { s.feeder[k] with
                                     state := .lineTest, phase := some .settle, invalid := 0, manual := true
                                     timer := some (s.general k).tLtSettle, lost := false, dest := none
                                     blockCause := .none }
          sec := s.sec.set k { s.sec[k] with role := .leader } } .accepted .empty)

/-- OPEN_FEEDER (R85): in CLOSED or CLOSING the feeder is tripped with origin MANUAL and destination OPEN; in DEAD_TIME
and WAIT_PARTNER the sequence ends in OPEN; in LINE_TEST the test ends CANCELLED (R76, R79); elsewhere, and while the
start steps are PENDING, it is refused. That the record of a cancelled test has no window values is the model's reading
(log 15), and so is what START means here (log 18). The trip's event carries the capture store's answer (R186).
BLOCK_FEEDER and UNBLOCK_FEEDER (R87): CLOSED and CLOSING trip with destination BLOCKED, an opening takes that
destination, a line test ends CANCELLED, and every other state without a closed breaker is BLOCKED with cause REQUEST at
once; LOCKED_OUT, an opening toward it, and the start steps PENDING refuse. Unblock brings a feeder BLOCKED with cause
REQUEST to OPEN. -/
def Obligations.OpenBlockUnblockFeeder : Prop :=
  (∀ (k : Fin 6) (tag : Byte) (s : State), s.ready →
    let c : Instr := .openFeeder tag [BitVec.ofNat 8 (k.val + 1)]
    (s.sts.complete = false → Answers c s 0x22 tag s.heard .refusedState (.feederState s.feeder[k].state)) ∧
    (s.sts.complete = true →
      let opened : State := { s.heard with
        feeder := s.feeder.set k { s.feeder[k] with
                                   state := .open, timer := none, phase := none, dest := none, manual := false
                                   blockCause := .none }
        sec := s.sec.set k { s.sec[k] with role := .none } }
      (s.feeder[k].state = .closed ∨ s.feeder[k].state = .closing →
        Answers c s 0x22 tag
          { s.heard with
            feeder := s.feeder.set k { s.feeder[k] with
                                       state := .opening, origin := .manual, element := .none, sotf := false
                                       dest := some .open, phase := none, manual := false, blockCause := .none
                                       timer := some (s.general k).tOpenMax, tripAt := s.elapsed }
            disc := s.disc.set k { s.disc[k] with
                                   rising := false, rise := none, imaxRun := 0, dtCount := 0, window := 0
                                   windowOpen := false }
            sec := s.sec.set k { s.sec[k] with role := .none }
            events := pushEvent s.events
              (s.event .fpu (k.val + 1) .tripFeeder (BitVec.ofNat 16 (3 * 256))
                (BitVec.ofInt 16 (s.reading (chIF k)).value) (s.trigger (srcTrip k)).2)
            cap := (s.trigger (srcTrip k)).1.cap } .ok .empty) ∧
      (s.feeder[k].state = .deadTime ∨ s.feeder[k].state = .waitPartner →
        Answers c s 0x22 tag opened .ok .empty) ∧
      (s.feeder[k].state = .lineTest →
        ∃ t, Answers c s 0x22 tag t .ok .empty ∧ t.feeder[k].state = .open ∧
          t.feeder[k].lastTest = some { outcome := .cancelled, rline := 0, values := none } ∧
          t.events = pushEvent s.events
            (s.event .fpu (k.val + 1) .lineTestResult 0 (BitVec.ofNat 16 TestOutcome.cancelled.code) .none) ∧
          t = { s.heard with feeder := t.feeder, sec := t.sec, events := t.events } ∧
          ∀ j : Fin 6, j ≠ k → t.feeder[j] = s.feeder[j] ∧ t.sec[j] = s.sec[j]) ∧
      (s.feeder[k].state = .open ∨ s.feeder[k].state = .opening ∨ s.feeder[k].state = .lockedOut ∨
        s.feeder[k].state = .blocked → Answers c s 0x22 tag s.heard .refusedState (.feederState s.feeder[k].state)))) ∧
  (∀ (k : Fin 6) (tag : Byte) (s : State), s.ready →
    let b : Instr := .blockFeeder tag [BitVec.ofNat 8 (k.val + 1)]
    let u : Instr := .unblockFeeder tag [BitVec.ofNat 8 (k.val + 1)]
    let f : Feeder := { s.feeder[k] with timer := none, phase := none, dest := none, manual := false }
    let sec := s.sec.set k { s.sec[k] with role := .none }
    (s.sts.complete = false →
      Answers b s 0x24 tag s.heard .refusedState (.feederState s.feeder[k].state) ∧
      Answers u s 0x25 tag s.heard .refusedState (.feederState s.feeder[k].state)) ∧
    (s.sts.complete = true →
      (s.feeder[k].state = .open ∨ s.feeder[k].state = .deadTime ∨ s.feeder[k].state = .waitPartner →
        Answers b s 0x24 tag
          { s.heard with feeder := s.feeder.set k { f with state := .blocked, blockCause := .request }, sec := sec }
          .ok .empty) ∧
      (s.feeder[k].state = .blocked →
        Answers b s 0x24 tag { s.heard with feeder := s.feeder.set k { s.feeder[k] with blockCause := .request } }
          .ok .empty) ∧
      (s.feeder[k].state = .opening → s.feeder[k].dest ≠ some .lockedOut →
        Answers b s 0x24 tag
          { s.heard with feeder := s.feeder.set k { s.feeder[k] with dest := some .blocked, blockCause := .request } }
          .ok .empty) ∧
      (s.feeder[k].state = .closed ∨ s.feeder[k].state = .closing →
        Answers b s 0x24 tag
          { s.heard with
            feeder := s.feeder.set k { f with
                                       state := .opening, origin := .manual, element := .none, sotf := false
                                       dest := some .blocked, blockCause := .request
                                       timer := some (s.general k).tOpenMax, tripAt := s.elapsed }
            disc := s.disc.set k { s.disc[k] with
                                   rising := false, rise := none, imaxRun := 0, dtCount := 0, window := 0
                                   windowOpen := false }
            sec := sec
            events := pushEvent s.events
              (s.event .fpu (k.val + 1) .tripFeeder (BitVec.ofNat 16 (3 * 256))
                (BitVec.ofInt 16 (s.reading (chIF k)).value) (s.trigger (srcTrip k)).2)
            cap := (s.trigger (srcTrip k)).1.cap } .ok .empty) ∧
      (s.feeder[k].state = .lineTest →
        ∃ t, Answers b s 0x24 tag t .ok .empty ∧ t.feeder[k].state = .blocked ∧ t.feeder[k].blockCause = .request ∧
          t.feeder[k].lastTest = some { outcome := .cancelled, rline := 0, values := none } ∧
          t = { s.heard with feeder := t.feeder, sec := t.sec, events := t.events }) ∧
      (s.feeder[k].state = .lockedOut ∨ (s.feeder[k].state = .opening ∧ s.feeder[k].dest = some .lockedOut) →
        Answers b s 0x24 tag s.heard .refusedState (.feederState s.feeder[k].state)) ∧
      (s.feeder[k].state = .blocked → s.feeder[k].blockCause = .request → s.sts.mode ≠ .start → s.sts.mode ≠ .safe →
        Answers u s 0x25 tag
          { s.heard with feeder := s.feeder.set k { f with state := .open, blockCause := .none }, sec := sec }
          .ok .empty) ∧
      (s.feeder[k].state ≠ .blocked ∨ s.feeder[k].blockCause ≠ .request ∨ s.sts.mode = .start ∨ s.sts.mode = .safe →
        Answers u s 0x25 tag s.heard .refusedState (.feederState s.feeder[k].state))))

/-- RESET_FEEDER (R86): taken in LOCKED_OUT, save with cause CHANNEL while IFk is FAILED, with cause BF while the
breaker reads closed, and in START. The attempt counter and intertrip_out are cleared, and the feeder enters BLOCKED in
SAFE, else CLOSED or OPEN as the breaker reads. That an adoption by it logs no event is the model's reading (log 17). -/
def Obligations.ResetFeederByBreaker : Prop :=
  ∀ (k : Fin 6) (tag : Byte) (s : State), s.ready →
    let c : Instr := .resetFeeder tag [BitVec.ofNat 8 (k.val + 1)]
    let taken : Prop := s.sts.complete = true ∧ s.feeder[k].state = .lockedOut ∧
      ¬ (s.feeder[k].lockCause = .channel ∧ s.aqu.channels[chIF k].health = .failed) ∧
      ¬ (s.feeder[k].lockCause = .bf ∧ s.bfb[k].reported = true)
    let f : Feeder := { s.feeder[k] with
      attempt := 0, lost := s.feeder[k].lost && s.aqu.channels[chUL k].health == .failed, phase := none, dest := none
      manual := false, timer := none, blockCause := .none }
    let sec := s.sec.set k { s.sec[k] with itOut := false, role := .none }
    (¬ taken →
      Answers c s 0x23 tag s.heard .refusedState (.feederLock s.feeder[k].state s.feeder[k].lockCause)) ∧
    (taken → s.sts.mode = .safe →
      Answers c s 0x23 tag
        { s.heard with feeder := s.feeder.set k { f with state := .blocked, blockCause := .station }, sec := sec }
        .ok .empty) ∧
    (taken → s.sts.mode ≠ .safe → s.bfb[k].reported = false →
      Answers c s 0x23 tag { s.heard with feeder := s.feeder.set k { f with state := .open }, sec := sec } .ok .empty) ∧
    (taken → s.sts.mode ≠ .safe → s.bfb[k].reported = true →
      Answers c s 0x23 tag
        { s.heard with
          feeder := s.feeder.set k { f with
                                     state := .closed, origin := .none, element := .none, sotf := false
                                     timer := some ((s.general k).tReclaim * 1000) }
          disc := s.disc.set k { s.disc[k] with
                                 rising := false, rise := none, imaxRun := 0, dtCount := 0, tripGiven := false }
          sec := sec } .ok .empty)

-- ===================================================================== sections (chapter 3)

/-- The feeding condition (R47): a section is DOUBLE, with group A, exactly when its partner entry is enabled, its link
UP, its mode NORMAL, or REDUCED where B_ON_REDUCED is no, and its summary CLOSED. Re-evaluation records it, and logs
GROUP_CHANGE at a change (R48) and only then. -/
def Obligations.FeedingConditionReevaluated : Prop :=
  ∀ (k : Fin 6) (s : State),
    let double : Prop := ∃ j, s.cfg.sections[k].partner = some j ∧ s.cfg.partners[j].enabled = true ∧
      s.link[j].up = true ∧
      (s.link[j].mode = some .normal ∨
        (s.link[j].mode = some .reduced ∧ s.cfg.sections[k].bOnReduced = false)) ∧
      s.sec[k].summary = .closed
    ((s.reevaluate k).sec[k].double = true ↔ double) ∧
    (s.reevaluate k).sec[k].active = (if (s.reevaluate k).sec[k].double = true then .a else .b) ∧
    ((s.reevaluate k).sec[k].double = s.sec[k].double → s.reevaluate k = s) ∧
    ((s.reevaluate k).sec[k].double ≠ s.sec[k].double →
      s.reevaluate k = { s with
        sec := s.sec.set k { s.sec[k] with double := !s.sec[k].double }
        events := pushEvent s.events
          (s.event .sco (k.val + 1) .groupChange (BitVec.ofNat 16 (k.val + 1))
            (if s.sec[k].double = true then 1 else 0) .none) })

/-- What this end reports of section k in a telegram (R49): the summary by the feeder's state, the origin with CHANNEL
and STATION sent as MANUAL, intertrip_out, and the line-test claim in LINE_TEST. -/
def Obligations.SectionEntryReportsFeeder : Prop :=
  ∀ (k : Fin 6) (s : State),
    (s.entryOf k).feeder = k.val + 1 ∧ (s.entryOf k).intertrip = s.sec[k].itOut ∧
    ((s.entryOf k).testing = true ↔ s.feeder[k].state = .lineTest) ∧
    ((s.entryOf k).summary = .closed ↔ s.feeder[k].state = .closed) ∧
    ((s.entryOf k).summary = .open ↔ (s.feeder[k].state = .closing ∨ s.feeder[k].state = .open ∨
      s.feeder[k].state = .opening ∨ s.feeder[k].state = .deadTime)) ∧
    ((s.entryOf k).summary = .testing ↔ s.feeder[k].state = .lineTest) ∧
    ((s.entryOf k).summary = .waiting ↔ s.feeder[k].state = .waitPartner) ∧
    ((s.entryOf k).summary = .locked ↔ (s.feeder[k].state = .lockedOut ∨ s.feeder[k].state = .blocked)) ∧
    ((s.entryOf k).origin = .own ↔ s.feeder[k].origin = .own) ∧
    ((s.entryOf k).origin = .intertrip ↔ s.feeder[k].origin = .intertrip) ∧
    ((s.entryOf k).origin = .manual ↔ (s.feeder[k].origin = .manual ∨ s.feeder[k].origin = .channel ∨
      s.feeder[k].origin = .station)) ∧
    ((s.entryOf k).origin = .none ↔ s.feeder[k].origin = .none)

-- ===================================================================== neighbour links (chapter 5)

/-- A telegram that can be sent and is not undecodable by R91. -/
def Sys2Proof.Machine.Telegram.sendable (t : Telegram) : Prop :=
  t.hops ≤ 2 ∧
  match t.body with
  | .status m g es =>
    m ≠ .start ∧ g ≤ 2 ∧ es.length ≤ 6 ∧
    ∀ e ∈ es, 1 ≤ e.feeder ∧ e.feeder ≤ 6 ∧ e.summary ≠ .unknown ∧ e.origin ≠ .channel ∧ e.origin ≠ .station
  | .test p => p.length = 32

/-- Every telegram that can be sent is decoded from its bytes as it was, CRC-16 included (R91, R95, section 11.3). -/
def Obligations.TelegramRoundTrip : Prop :=
  ∀ t : Telegram, t.sendable → decodeTelegram t.bytes = some t

/-- IDLE_SYMBOL_RECEIVED, and TELEGRAM_RECEIVED with a telegram that does not decode (R91, R94, R109): a disabled port
frames none; any other counts the telegram and sets CRC_ERR, and in TESTING it is taken for the oldest outstanding echo.
TELEGRAM_RECEIVED, a STATUS telegram for this station while its partner's link is DOWN (R41, R99, R100): a source that
is no enabled partner of the port, or is this station's own address, sets ADDR_MISMATCH; a repeated sequence number is a
duplicate; the next number counts toward the link, and a gap starts the count again with SEQ_GAP set. The third count
holds the telegram for LINK_UP. -/
def Obligations.TelegramJudged : Prop :=
  (∀ (p : Port) (bytes : List Byte) (err : Bool) (s : State), s.quiet = true →
    exec (.idleSymbolReceived p) s = .next (s.setPort p { s.port p with silence := 0 }) ∧
    ((s.port p).disabled = true → exec (.telegramReceived p bytes err) s = .next s) ∧
    ((s.port p).disabled = false → (err = true ∨ decodeTelegram bytes = none) →
      ((s.port p).state ≠ .testing ∨ (s.port p).outstanding = [] →
        exec (.telegramReceived p bytes err) s = .next (s.setPort p { s.port p with
          silence := 0, crcErr := true, undecodable := min 8 ((s.port p).undecodable + 1) })) ∧
      (∀ o rest, (s.port p).state = .testing → (s.port p).outstanding = o :: rest →
        exec (.telegramReceived p bytes err) s = .next (s.setPort p { s.port p with
          silence := 0, crcErr := true, undecodable := min 8 ((s.port p).undecodable + 1), outstanding := rest
          errored := (s.port p).errored + 1 })))) ∧
  (∀ (p : Port) (bytes : List Byte) (t : Telegram) (m : Mode) (g : Nat) (es : List Entry) (s : State),
    s.quiet = true → (s.port p).disabled = false → (s.port p).state = .inSync → s.sts.complete = true →
    decodeTelegram bytes = some t → t.body = .status m g es → s.sts.address = some t.dest →
    let r : PortRec := { s.port p with silence := 0, undecodable := 0 }
    ((∀ j : Fin 4, s.cfg.partners[j].enabled = true → s.cfg.partners[j].port = p →
        s.cfg.partners[j].address ≠ t.source.toNat) ∨ s.sts.address = some t.source →
      exec (.telegramReceived p bytes false) s = .next (s.setPort p { r with addrMismatch := true })) ∧
    (s.sts.address ≠ some t.source → ∀ j : Fin 4, s.cfg.partners[j].enabled = true → s.cfg.partners[j].port = p →
      s.cfg.partners[j].address = t.source.toNat → s.link[j].up = false →
      (∀ i : Fin 4, i ≠ j → s.cfg.partners[i].enabled = true →
        s.cfg.partners[i].address ≠ s.cfg.partners[j].address) →
      let l (n : Nat) : LinkRec := { s.link[j] with
        lastSeq := some t.seq, timeout := some 20, lastAccepted := some s.elapsed, upCount := n
        held := if n = 3 then some t else none }
      (s.link[j].lastSeq = some t.seq →
        exec (.telegramReceived p bytes false) s = .next (s.setPort p r)) ∧
      ((s.link[j].lastSeq = none ∨ ∃ q, s.link[j].lastSeq = some q ∧ t.seq = q + 1) →
        exec (.telegramReceived p bytes false) s = .next
          ((s.setPort p r).setLink j (l (min 3 (s.link[j].upCount + 1))))) ∧
      (∀ q, s.link[j].lastSeq = some q → t.seq ≠ q → t.seq ≠ q + 1 →
        exec (.telegramReceived p bytes false) s = .next
          ((s.setPort p { r with seqGap := true }).setLink j (l 1)))))

/-- An accepted telegram of a partner whose link is UP (TELEGRAM_RECEIVED), and the one that takes it UP (LINK_UP), are
written as one whole (R45, R47, R100): the entry takes mode and groups, every section naming the entry takes the first
entry for its partner feeder or is cleared, and its feeding condition follows. An intertrip that becomes set trips a
CLOSED or CLOSING feeder with origin INTERTRIP toward WAIT_PARTNER, without intertrip_out and without an attempt (R52,
R69). intertrip_in (R52): handed on only at its change from clear to set, with INTERTRIP_RECEIVED naming the part that
changed, TELEGRAM or TERMINAL. A feeder in CLOSED or CLOSING then trips with origin INTERTRIP toward WAIT_PARTNER, and
any other takes it without action (R69); TRIP_FEEDER carries the capture store's answer (R186). -/
def Obligations.AcceptedTelegramWritten : Prop :=
  (∀ (p : Port) (bytes : List Byte) (t : Telegram) (m : Mode) (g : Nat) (es : List Entry) (j : Fin 4) (s : State),
    s.cfg.partners[j].enabled = true → t.body = .status m g es →
    let written (u : State) : Prop :=
      u.link[j].up = true ∧ u.link[j].mode = some m ∧ u.link[j].groups = g ∧
      (∀ i : Fin 4, i ≠ j → u.link[i] = s.link[i]) ∧
      (∀ k : Fin 6, s.cfg.sections[k].partner = some j →
        (∀ e, es.find? (fun e => e.feeder == s.cfg.sections[k].partnerFeeder) = some e →
          u.sec[k].summary = (if e.testing = true then .testing else e.summary) ∧ u.sec[k].porigin = e.origin ∧
          u.sec[k].itTelegram = e.intertrip) ∧
        (es.find? (fun e => e.feeder == s.cfg.sections[k].partnerFeeder) = none →
          u.sec[k].summary = .unknown ∧ u.sec[k].porigin = .none ∧ u.sec[k].itTelegram = false) ∧
        (u.sec[k].double = true ↔ u.sec[k].summary = .closed ∧
          (m = .normal ∨ (m = .reduced ∧ s.cfg.sections[k].bOnReduced = false)))) ∧
      (∀ (k : Fin 6) (e : Entry), s.cfg.sections[k].partner = some j →
        es.find? (fun e => e.feeder == s.cfg.sections[k].partnerFeeder) = some e → e.intertrip = true →
        s.sec[k].itTelegram = false → s.sec[k].itTerminal = false →
        (s.feeder[k].state = .closed ∨ s.feeder[k].state = .closing) →
        u.feeder[k].state = .opening ∧ u.feeder[k].origin = .intertrip ∧ u.feeder[k].dest = some .waitPartner ∧
        u.feeder[k].attempt = s.feeder[k].attempt ∧ u.sec[k].itOut = s.sec[k].itOut) ∧
      (∀ k : Fin 6, s.cfg.sections[k].partner ≠ some j → u.sec[k] = s.sec[k] ∧ u.feeder[k] = s.feeder[k]) ∧
      u.sts = s.sts ∧ u.group = s.group ∧ u.sst = s.sst ∧ u.cmp = s.cmp ∧ u.bfb = s.bfb ∧ u.aqu = s.aqu ∧
      u.pending = s.pending ∧ u.uset = s.uset
    (s.link[j].up = false → s.link[j].upCount = 3 → s.link[j].held = some t →
      ∃ u, exec (.linkUp j) s = .next u ∧ written u ∧ u.link[j].held = none ∧
        EventsGrow
          (pushEvent s.events (s.event .nlc (11 + j.val) .linkState 3 (BitVec.ofNat 16 (linkCauseCode .accepted)) .none))
          u.events ∧
        u.upPort = s.upPort ∧ u.dnPort = s.dnPort) ∧
    (s.quiet = true → s.link[j].up = true → (s.port p).disabled = false → (s.port p).state = .inSync →
      s.sts.complete = true → decodeTelegram bytes = some t → s.sts.address = some t.dest →
      s.cfg.partners[j].port = p → s.cfg.partners[j].address = t.source.toNat → s.sts.address ≠ some t.source →
      (∀ i : Fin 4, i ≠ j → s.cfg.partners[i].enabled = true →
        s.cfg.partners[i].address ≠ s.cfg.partners[j].address) →
      s.link[j].lastSeq ≠ some t.seq →
      ∃ u, exec (.telegramReceived p bytes false) s = .next u ∧ written u ∧ u.link[j].lastSeq = some t.seq ∧
        u.link[j].timeout = some 20 ∧ u.link[j].lastAccepted = some s.elapsed ∧ EventsGrow s.events u.events ∧
        (u.port p).silence = 0 ∧ (u.port p).undecodable = 0 ∧
        ((u.port p).seqGap = true ↔
          (s.port p).seqGap = true ∨ ∃ q, s.link[j].lastSeq = some q ∧ t.seq ≠ q + 1))) ∧
  (∀ (k : Fin 6) (level before : Bool) (part : Nat) (s : State),
    let q := pushEvent s.events
      (s.event .sco (k.val + 1) .intertripReceived (BitVec.ofNat 16 (k.val + 1)) (BitVec.ofNat 16 part) .none)
    s.setItTerminal k level =
      ({ s with sec := s.sec.set k { s.sec[k] with itTerminal := level } } : State).handIntertrip k
        (s.sec[k].itTelegram || s.sec[k].itTerminal) 1 ∧
    (before = true ∨ (s.sec[k].itTelegram = false ∧ s.sec[k].itTerminal = false) → s.handIntertrip k before part = s) ∧
    (before = false → (s.sec[k].itTelegram = true ∨ s.sec[k].itTerminal = true) →
      (s.feeder[k].state = .closed ∨ s.feeder[k].state = .closing →
        s.handIntertrip k before part = { s with
          feeder := s.feeder.set k { s.feeder[k] with
                                     state := .opening, origin := .intertrip, element := .none, sotf := false
                                     dest := some .waitPartner, phase := none, manual := false, blockCause := .none
                                     timer := some (s.general k).tOpenMax, tripAt := s.elapsed }
          disc := s.disc.set k { s.disc[k] with
                                 rising := false, rise := none, imaxRun := 0, dtCount := 0, window := 0
                                 windowOpen := false }
          sec := s.sec.set k { s.sec[k] with role := .none }
          events := pushEvent q
            (s.event .fpu (k.val + 1) .tripFeeder (BitVec.ofNat 16 (2 * 256))
              (BitVec.ofInt 16 (s.reading (chIF k)).value) (s.trigger (srcTrip k)).2)
          cap := (s.trigger (srcTrip k)).1.cap }) ∧
      (s.feeder[k].state ≠ .closed → s.feeder[k].state ≠ .closing →
        s.handIntertrip k before part = { s with events := q })))

/-- TELEGRAM_RECEIVED, a telegram for others (R98, R104, R108): in STANDBY a STATUS telegram with a hop left goes out on
the other port with its hop count reduced; a TEST telegram of another station goes back on the port it came by. On an
idle line with nothing queued it is in transmission at once, with the resync pattern where it is owed, which is the
model's reading (logs 19 and 20); on a busy line it joins the queue, and a full queue discards it (R96). One discarded
because the other port is TESTING is counted there, which is the model's choice (log 37). -/
def Obligations.TelegramForwardedOrEchoed : Prop :=
  ∀ (p : Port) (bytes : List Byte) (t : Telegram) (s : State),
    s.quiet = true → (s.port p).disabled = false → (s.port p).state = .inSync → s.sts.complete = true →
    decodeTelegram bytes = some t →
    let r : PortRec := { s.port p with silence := 0, undecodable := 0 }
    let joined (r : PortRec) (t : Telegram) : PortRec :=
      if r.queue.length < 4 then
        { r with queue := r.queue ++ [{ own := false, telegram := t }], forwarded := r.forwarded + 1 }
      else { r with dropped := r.dropped + 1 }
    (∀ m g es, t.body = .status m g es → s.sts.address ≠ some t.dest →
      ((s.sts.mode ≠ .standby ∨ t.hops = 0 ∨ (s.port (otherPort p)).disabled = true) →
        exec (.telegramReceived p bytes false) s = .next (s.setPort p { r with addrMismatch := true })) ∧
      (s.sts.mode = .standby → 0 < t.hops → (s.port (otherPort p)).disabled = false →
        (s.port (otherPort p)).state = .testing →
        exec (.telegramReceived p bytes false) s = .next ((s.setPort p r).setPort (otherPort p)
          { s.port (otherPort p) with dropped := (s.port (otherPort p)).dropped + 1 })) ∧
      (s.sts.mode = .standby → 0 < t.hops → (s.port (otherPort p)).disabled = false →
        (s.port (otherPort p)).state ≠ .testing → (s.port (otherPort p)).sending ≠ none →
        exec (.telegramReceived p bytes false) s = .next ((s.setPort p r).setPort (otherPort p)
          (joined (s.port (otherPort p)) { t with hops := t.hops - 1 }))) ∧
      (s.sts.mode = .standby → 0 < t.hops → (s.port (otherPort p)).disabled = false →
        (s.port (otherPort p)).state ≠ .testing → (s.port (otherPort p)).queue = [] →
        (s.port (otherPort p)).sending = none →
        exec (.telegramReceived p bytes false) s = .next ((s.setPort p r).setPort (otherPort p)
          { s.port (otherPort p) with
            forwarded := (s.port (otherPort p)).forwarded + 1, resyncDue := false
            sending := some { item := { own := false, telegram := { t with hops := t.hops - 1 } }
                              afterResync := (s.port (otherPort p)).resyncDue } }))) ∧
    (∀ pl, t.body = .test pl →
      (s.sts.address = some t.source → exec (.telegramReceived p bytes false) s = .next (s.setPort p r)) ∧
      (s.sts.address ≠ some t.source → r.sending ≠ none →
        exec (.telegramReceived p bytes false) s = .next (s.setPort p (joined r t))) ∧
      (s.sts.address ≠ some t.source → r.queue = [] → r.sending = none →
        exec (.telegramReceived p bytes false) s = .next (s.setPort p { r with
          forwarded := r.forwarded + 1, resyncDue := false
          sending := some { item := { own := false, telegram := t }, afterResync := r.resyncDue } })))

/-- PORT_SYNC_LOSS (R92, R97, R102): at an undecodable run of 8, or a silence of 20 ms, the port is SYNCING with the
RESYNC flag set; its queue is emptied, once the telegram in transmission has finished where there is one; every enabled
partner on it is DOWN with its timeout stopped, the partners of the other port are not touched. That the resync pattern
is kept as owed, and the emptying too, is the model's reading (log 20). With neither condition nothing happens.
PARTNER_TIMEOUT (R46, R101, R103): a link that is DOWN loses its up-count; a link that is UP goes DOWN, its port's
TIMEOUT flag is set, and every section naming the entry is cleared and falls to SINGLE. A timeout that an accepted
telegram taken first has loaded again has not run out, and does not expire. -/
def Obligations.LostLinksGoDown : Prop :=
  (∀ (p : Port) (s : State), (s.port p).state = .inSync → ((s.port p).undecodable ≠ 8 → s.quiet = true) →
    ((s.port p).undecodable ≠ 8 → (s.port p).silence ≠ 20 → exec (.portSyncLoss p) s = .next s) ∧
    ((s.port p).undecodable = 8 ∨ (s.port p).silence = 20 →
    ∃ t q, exec (.portSyncLoss p) s = .next t ∧
      (let r : PortRec := { s.port p with
         state := .syncing, undecodable := 0, silence := 0, resyncDue := true, resync := true }
       ((s.port p).sending = none →
         t.port p = { r with
           queue := []
           dropped := r.dropped + BitVec.ofNat 32 (((s.port p).queue.filter fun x => !x.own).length) }) ∧
       ((s.port p).sending ≠ none → t.port p = { r with emptyDue := true })) ∧
      t.port (otherPort p) = s.port (otherPort p) ∧
      (∀ j : Fin 4, s.cfg.partners[j].enabled = true → s.cfg.partners[j].port = p →
        t.link[j].up = false ∧ t.link[j].upCount = 0 ∧ t.link[j].timeout = none ∧
        (s.link[j].up = true → t.link[j].mode = none ∧ t.link[j].groups = 0 ∧
          ∀ k : Fin 6, s.cfg.sections[k].partner = some j →
            t.sec[k].summary = .unknown ∧ t.sec[k].porigin = .none ∧ t.sec[k].itTelegram = false ∧
            t.sec[k].double = false)) ∧
      (∀ j : Fin 4, s.cfg.partners[j].enabled = false ∨ s.cfg.partners[j].port ≠ p → t.link[j] = s.link[j]) ∧
      t.events = pushEvent q (s.event .nlc (portCode p + 1) .linkState 0
        (BitVec.ofNat 16 (linkCauseCode (if (s.port p).undecodable = 8 then .undecodable else .silence))) .none) ∧
      EventsGrow s.events q ∧
      t = { s with
        link := t.link, upPort := t.upPort, dnPort := t.dnPort, sec := t.sec, feeder := t.feeder, disc := t.disc
        events := t.events })) ∧
  (∀ (j : Fin 4) (s : State), s.quiet = true →
    (s.link[j].timeout ≠ some 0 → exec (.partnerTimeout j) s = .next s) ∧
    (s.link[j].timeout = some 0 →
    (s.link[j].up = false →
      exec (.partnerTimeout j) s = .next
        (s.setLink j { s.link[j] with upCount := 0, timeout := none, held := none })) ∧
    (s.link[j].up = true →
      ∃ t, exec (.partnerTimeout j) s = .next t ∧
        t.link[j] = { s.link[j] with
          up := false, upCount := 0, timeout := none, held := none, mode := none, groups := 0 } ∧
        (∀ i : Fin 4, i ≠ j → t.link[i] = s.link[i]) ∧
        t.port s.cfg.partners[j].port = { s.port s.cfg.partners[j].port with timeoutFlag := true } ∧
        t.port (otherPort s.cfg.partners[j].port) = s.port (otherPort s.cfg.partners[j].port) ∧
        (∀ k : Fin 6, s.cfg.sections[k].partner = some j →
          t.sec[k].summary = .unknown ∧ t.sec[k].porigin = .none ∧ t.sec[k].itTelegram = false ∧
          t.sec[k].double = false) ∧
        (∀ k : Fin 6, s.cfg.sections[k].partner ≠ some j → t.sec[k] = s.sec[k] ∧ t.feeder[k] = s.feeder[k]) ∧
        EventsGrow
          (pushEvent s.events (s.event .nlc (11 + j.val) .linkState 4 (BitVec.ofNat 16 (linkCauseCode .timeout)) .none))
          t.events ∧
        t = { s with
          link := t.link, upPort := t.upPort, dnPort := t.dnPort, sec := t.sec, feeder := t.feeder, disc := t.disc
          events := t.events })))

/-- TELEGRAM_PERIOD (R49, R95, R96): after START one STATUS telegram is built for each entry in ascending order, where
the entry is enabled and its port neither disabled nor TESTING. On an idle line with nothing queued it is in
transmission at once, with the resync pattern where it is owed, which is the model's reading (logs 19 and 20). On a busy
line it joins the queue: in the place of the OWN telegrams for its destination, else at the tail; a full queue gives up
its oldest FORWARDED telegram, and one that holds none drops the new one, which R96 says cannot be (log 19).
TRANSMISSION_END (R92, R96, R108): the line is idle, or the head of the queue leaves it and is sent; a TEST telegram of
this station is counted sent and joins the outstanding list as its transmission begins. A queue to be emptied at the end
of this transmission is emptied whole (log 20). -/
def Obligations.TelegramsBuiltAndSent : Prop :=
  (∀ s : State, s.quiet = true →
    (s.sts.complete = false → exec .telegramPeriod s = .next s) ∧
    (s.sts.complete = true →
      exec .telegramPeriod s = .next ((((s.sendStatus 0).sendStatus 1).sendStatus 2).sendStatus 3)) ∧
    (∀ j : Fin 4,
      let c := s.cfg.partners[j]
      (c.enabled = false ∨ (s.port c.port).disabled = true ∨ (s.port c.port).state = .testing →
        s.sendStatus j = s) ∧
      (c.enabled = true → (s.port c.port).disabled = false → (s.port c.port).state ≠ .testing →
        let r := s.port c.port
        let x : Queued :=
          { own := true
            telegram := { dest := BitVec.ofNat 8 c.address, source := s.sts.address.getD 0
                          hops := c.hops, seq := s.link[j].nextSeq
                          body := .status s.sts.mode (vcount (fun g => g.state == .running) s.group)
                            ((feeders6.filter fun k => s.cfg.sections[k].partner == some j).map s.entryOf) } }
        let same (y : Queued) : Bool := y.own && y.telegram.dest == BitVec.ofNat 8 c.address
        let u := s.setLink j { s.link[j] with nextSeq := s.link[j].nextSeq + 1 }
        (r.queue = [] → r.sending = none →
          s.sendStatus j = u.setPort c.port { r with
            resyncDue := false, sending := some { item := x, afterResync := r.resyncDue } }) ∧
        (r.sending ≠ none →
          (r.queue.any same = true →
            s.sendStatus j = u.setPort c.port { r with queue := r.queue.filter (fun y => !same y) ++ [x] }) ∧
          (r.queue.any same = false → r.queue.length < 4 →
            s.sendStatus j = u.setPort c.port { r with queue := r.queue ++ [x] }) ∧
          (r.queue.any same = false → 4 ≤ r.queue.length →
            (∀ (a b : List Queued) (y : Queued), r.queue = a ++ y :: b → (∀ z ∈ a, z.own = true) → y.own = false →
              s.sendStatus j = u.setPort c.port { r with queue := a ++ b ++ [x], dropped := r.dropped + 1 }) ∧
            ((∀ z ∈ r.queue, z.own = true) →
              s.sendStatus j = u.setPort c.port { r with dropped := r.dropped + 1 })))))) ∧
  (∀ (p : Port) (s : State), s.quiet = true →
    ((s.port p).emptyDue = true →
      exec (.transmissionEnd p) s = .next (s.setPort p { s.port p with
        sending := none, queue := [], emptyDue := false
        dropped := (s.port p).dropped + BitVec.ofNat 32 (((s.port p).queue.filter fun x => !x.own).length) })) ∧
    ((s.port p).emptyDue = false → (s.port p).queue = [] →
      exec (.transmissionEnd p) s = .next (s.setPort p { s.port p with sending := none })) ∧
    (∀ x rest, (s.port p).emptyDue = false → (s.port p).queue = x :: rest →
      let r : PortRec := { s.port p with
        queue := rest, sending := some { item := x, afterResync := (s.port p).resyncDue }, resyncDue := false }
      (∀ m g es, x.telegram.body = .status m g es →
        exec (.transmissionEnd p) s = .next (s.setPort p r)) ∧
      (x.own = false → exec (.transmissionEnd p) s = .next (s.setPort p r)) ∧
      (∀ pl, x.own = true → x.telegram.body = .test pl →
        exec (.transmissionEnd p) s = .next (s.setPort p { r with
          sent := r.sent + 1
          outstanding := r.outstanding ++ [{ seq := x.telegram.seq, payload := pl, sentAt := s.elapsed }] }))))

/-- TEST_TELEGRAM_PERIOD, TEST_ECHO_TIMEOUT and LINK_TEST_EXPIRY (R96, R97, R108, R109, R110): the next TEST telegram is
built and sent or queued; the oldest outstanding echo is missing once it was sent 20 ms ago; at the end the TEST
telegrams still waiting leave the queue, the outstanding ones are missing and the port is SYNCING (R92). That a telegram
on an idle line is in transmission at once is the model's reading (log 19), and so are the owed resync pattern and the
emptying of the queue (log 20); the payload bytes are free values (log 9). -/
def Obligations.LinkTestRuns : Prop :=
  ∀ (p : Port) (s : State), s.quiet = true → (s.port p).state = .testing →
    (let r := s.port p
     let x : Queued :=
       { own := true
         telegram := { dest := 0, source := s.sts.address.getD 0, hops := 0, seq := r.testSeq
                       body := .test (Config.testPayload r.testBuilt).toList } }
     let u : PortRec := { r with testSeq := r.testSeq + 1, testBuilt := r.testBuilt + 1 }
     (r.queue = [] → r.sending = none →
       exec (.testTelegramPeriod p) s = .next (s.setPort p { u with
         resyncDue := false, sent := r.sent + 1, sending := some { item := x, afterResync := r.resyncDue }
         outstanding := r.outstanding ++
           [{ seq := r.testSeq, payload := (Config.testPayload r.testBuilt).toList, sentAt := s.elapsed }] })) ∧
     (r.sending ≠ none → r.queue.length < 4 →
       exec (.testTelegramPeriod p) s = .next (s.setPort p { u with queue := r.queue ++ [x] })) ∧
     (r.sending ≠ none → 4 ≤ r.queue.length → ∀ (a b : List Queued) (y : Queued), r.queue = a ++ y :: b →
       (∀ z ∈ a, z.own = true) → y.own = false →
       exec (.testTelegramPeriod p) s = .next
         (s.setPort p { u with queue := a ++ b ++ [x], dropped := r.dropped + 1 }))) ∧
    (∀ o rest, (s.port p).outstanding = o :: rest →
      (20 ≤ (s.elapsed - o.sentAt).toNat →
        exec (.testEchoTimeout p) s = .next
          (s.setPort p { s.port p with outstanding := rest, missing := (s.port p).missing + 1 })) ∧
      ((s.elapsed - o.sentAt).toNat < 20 → exec (.testEchoTimeout p) s = .next s)) ∧
    ((s.port p).testLeft ≠ some 0 → exec (.linkTestExpiry p) s = .next s) ∧
    ((s.port p).testLeft = some 0 →
      ∃ t, exec (.linkTestExpiry p) s = .next t ∧
        (let r : PortRec := { s.port p with
           state := .syncing, undecodable := 0, silence := 0, resyncDue := true
           missing := (s.port p).missing + (s.port p).outstanding.length, outstanding := [], testLeft := none }
         ((s.port p).sending = none →
           t.port p = { r with
             queue := []
             dropped := r.dropped + BitVec.ofNat 32 (((s.port p).queue.filter fun x => !x.own).length) }) ∧
         ((s.port p).sending ≠ none →
           t.port p = { r with
             emptyDue := true
             queue := (s.port p).queue.filter fun x =>
               !(x.own && match x.telegram.body with
                 | .test _ => true
                 | .status _ _ _ => false) })) ∧
        (∀ j : Fin 4, s.cfg.partners[j].enabled = true → s.cfg.partners[j].port = p → t.link[j].up = false) ∧
        EventsGrow s.events t.events ∧
        t = { s with
          link := t.link, upPort := t.upPort, dnPort := t.dnPort, sec := t.sec, feeder := t.feeder, disc := t.disc
          events := t.events })

/-- READ_LINK, START_LINK_TEST and STOP_LINK_TEST (R105, R107, R110): reading clears the five cause flags as the reply
is formed; a test starts on a port that is enabled and not TESTING, after START, and while no feeder of its partners is
in LINE_TEST or WAIT_PARTNER, and empties the queue (R97); only a TESTING port can be stopped. That START means the
start steps PENDING here, in SAFE too, is the model's reading (log 18), and so is that the queue is emptied at once (log
20). -/
def Obligations.LinkRequestsAnswered : Prop :=
  ∀ (p : Port) (tag : Byte) (seconds : Nat) (s : State), s.ready → 1 ≤ seconds → seconds ≤ 600 →
    let code : Byte := if p = .up then 0 else 1
    let start : Instr := .startLinkTest tag (code :: beBytes 2 seconds)
    let busy (k : Fin 6) : Prop :=
      (s.feeder[k].state = .lineTest ∨ s.feeder[k].state = .waitPartner) ∧
      ∃ j, s.cfg.sections[k].partner = some j ∧ s.cfg.partners[j].enabled = true ∧ s.cfg.partners[j].port = p
    (∃ v : LinkView, Answers (.readLink tag [code]) s 0x41 tag
        (s.heard.setPort p { s.port p with
          crcErr := false, addrMismatch := false, seqGap := false, timeoutFlag := false, resync := false })
        .ok (.link v) ∧
      v.state = (s.port p).state ∧ v.disabled = (s.port p).disabled ∧ v.crcErr = (s.port p).crcErr ∧
      v.addrMismatch = (s.port p).addrMismatch ∧ v.seqGap = (s.port p).seqGap ∧
      v.timeoutFlag = (s.port p).timeoutFlag ∧ v.resync = (s.port p).resync ∧
      v.undecodable = (s.port p).undecodable ∧ v.queued = (s.port p).queue.length ∧
      v.forwarded = (s.port p).forwarded ∧ v.dropped = (s.port p).dropped ∧ v.sent = (s.port p).sent ∧
      v.good = (s.port p).good ∧ v.errored = (s.port p).errored ∧ v.missing = (s.port p).missing) ∧
    (s.sts.complete = false ∨ (s.port p).disabled = true ∨ (s.port p).state = .testing →
      Answers start s 0x42 tag s.heard .refusedState .empty) ∧
    (s.sts.complete = true → (s.port p).disabled = false → (s.port p).state ≠ .testing →
      (∀ k, busy k → (∀ i : Fin 6, i < k → ¬ busy i) →
        Answers start s 0x42 tag s.heard .refusedState (.feederNamed k s.feeder[k].state)) ∧
      ((∀ k, ¬ busy k) →
        ∃ t, Answers start s 0x42 tag t .ok .empty ∧ (t.port p).state = .testing ∧
          (t.port p).testLeft = some (seconds * 1000) ∧ (t.port p).queue = [] ∧ (t.port p).sent = 0 ∧
          (t.port p).good = 0 ∧ (t.port p).errored = 0 ∧ (t.port p).missing = 0 ∧ (t.port p).testSeq = 0 ∧
          (t.port p).outstanding = [] ∧ (t.port p).sending = (s.port p).sending ∧
          (t.port p).dropped =
            (s.port p).dropped + BitVec.ofNat 32 (((s.port p).queue.filter fun x => !x.own).length) ∧
          t.port (otherPort p) = s.port (otherPort p) ∧
          (∀ j : Fin 4, s.cfg.partners[j].enabled = true → s.cfg.partners[j].port = p → t.link[j].up = false) ∧
          t = { s.heard with
            link := t.link, upPort := t.upPort, dnPort := t.dnPort, sec := t.sec, feeder := t.feeder, disc := t.disc
            events := t.events })) ∧
    ((s.port p).state ≠ .testing →
      Answers (.stopLinkTest tag [code]) s 0x43 tag s.heard .refusedState .empty) ∧
    ((s.port p).state = .testing →
      ∃ t, Answers (.stopLinkTest tag [code]) s 0x43 tag t .ok .empty ∧ (t.port p).state = .syncing ∧
        (t.port p).missing = (s.port p).missing + (s.port p).outstanding.length ∧ (t.port p).testLeft = none ∧
        (t.port p).outstanding = [] ∧ t.port (otherPort p) = s.port (otherPort p))

-- ===================================================================== rectifier groups (chapter 6)

/-- SYNC_CROSSING with the clock GOOD (R113, R114): a crossing of phase A judges the cycle it ends. A cycle of 18180 to
22220 µs that held one crossing of B and then one of C gives the period and counts toward the lock; any other counts
against it. It restarts the 40 ms crossing timer and begins the cycle of a next thyristor that has waited for it (R115).
Outside GOOD nothing is supervised. SYNC_STATE_CHANGE, and CROSSING_TIMER_EXPIRY of a locked sync (R114, R121, R125):
the sync becomes LOST, and the group that fires is BLOCKED with cause SYNC_LOST, its firing stopped and its restart
delay loaded. GROUP_STATE carries the capture store's answer to the trigger GROUP_BLOCK (R186). CROSSING_TIMER_EXPIRY
that does not move the group (R113, R114): an unlocked sync loses its last crossing and its good cycles; a timer that a
crossing taken first has restarted does not expire. That it is a command which finds the timer at 0 is the model's
choice (log 1). SYNC_STATE_CHANGE of an unlocked sync with five good cycles (R114, R122): the sync is LOCKED, and the
last cause of a group in OFF having cleared with the station feeding, the group enters STARTING. -/
def Obligations.SyncSupervisionMovesGroup : Prop :=
  (∀ (g : Fin 2) (time : Nat) (s : State), s.quiet = true →
    (s.aqu.clock ≠ .good → ∀ ph, exec (.syncCrossing g ph time) s = .next s) ∧
    (s.aqu.clock = .good →
      let group := s.group.set g { s.group[g] with
        anchor := if s.group[g].begun = true ∧ s.group[g].anchor = none then some time else s.group[g].anchor }
      (s.sync[g].lastCross = none →
        exec (.syncCrossing g .a time) s = .next { s with
          group := group
          sync := s.sync.set g { s.sync[g] with lastCross := some time, prevCross := none, crossTimer := some 40000, seen := .nothing } }) ∧
      (∀ last, s.sync[g].lastCross = some last → s.sync[g].seen = .bc → 18180 ≤ time - last → time - last ≤ 22220 →
        exec (.syncCrossing g .a time) s = .next { s with
          group := group
          sync := s.sync.set g { s.sync[g] with
                                 lastCross := some time, prevCross := some last, crossTimer := some 40000
                                 seen := .nothing
                                 period := some (time - last)
                                 good := if s.sync[g].locked = true then s.sync[g].good else min 5 (s.sync[g].good + 1)
                                 bad := if s.sync[g].locked = true then 0 else s.sync[g].bad } }) ∧
      (∀ last, s.sync[g].lastCross = some last →
        (s.sync[g].seen ≠ .bc ∨ time - last < 18180 ∨ 22220 < time - last) →
        exec (.syncCrossing g .a time) s = .next { s with
          group := group
          sync := s.sync.set g { s.sync[g] with
                                 lastCross := some time, prevCross := some last, crossTimer := some 40000
                                 seen := .nothing
                                 good := if s.sync[g].locked = true then s.sync[g].good else 0
                                 bad := if s.sync[g].locked = true then min 2 (s.sync[g].bad + 1)
                                   else s.sync[g].bad } }) ∧
      exec (.syncCrossing g .b time) s = .next { s with
        sync := s.sync.set g { s.sync[g] with seen := if s.sync[g].seen = .nothing then .b else .wrong } } ∧
      exec (.syncCrossing g .c time) s = .next { s with
        sync := s.sync.set g { s.sync[g] with seen := if s.sync[g].seen = .b then .bc else .wrong } })) ∧
  (∀ (g : Fin 2) (s : State), s.sync[g].locked = true → s.group[g].state.fires = true →
    let blocked (t : State) : Prop :=
        t.group[g] = { s.group[g] with
          state := .blocked, alpha := 1500, currentLimit := false, phasedBack := false, ocRun := 0, next := 0
          begun := false, anchor := none, pulse := none, delay := some 5000, blockCause := some .syncLost } ∧
        t.events = pushEvent s.events
          (s.event .rcu (g.val + 1) .groupState (BitVec.ofNat 16 ((g.val + 1) * 256 + 3))
            (BitVec.ofNat 16 (gReasonCode (.cause .syncLost))) (s.trigger srcGroupBlock).2) ∧
        (∀ h : Fin 2, h ≠ g → t.group[h] = s.group[h] ∧ t.sync[h] = s.sync[h]) ∧
        t = { s with
          group := t.group, sync := t.sync, events := t.events, cap := (s.trigger srcGroupBlock).1.cap }
    (s.sync[g].bad = 2 →
      ∃ t, exec (.syncStateChange g) s = .next t ∧ blocked t ∧
        t.sync[g] = { s.sync[g] with locked := false, good := 0 }) ∧
    (s.quiet = true → s.aqu.clock = .good → s.sync[g].crossTimer = some 0 →
      ∃ t, exec (.crossingTimerExpiry g) s = .next t ∧ blocked t ∧
        t.sync[g] = { s.sync[g] with
          locked := false, good := 0, lastCross := none, prevCross := none, crossTimer := none, seen := .nothing })) ∧
  (∀ (g : Fin 2) (s : State), s.quiet = true →
    (s.aqu.clock ≠ .good ∨ s.sync[g].crossTimer ≠ some 0 → exec (.crossingTimerExpiry g) s = .next s) ∧
    (s.aqu.clock = .good → s.sync[g].crossTimer = some 0 → s.sync[g].locked = false →
      exec (.crossingTimerExpiry g) s = .next { s with
        sync := s.sync.set g { s.sync[g] with
                               good := 0, lastCross := none, prevCross := none, crossTimer := none, seen := .nothing } })) ∧
  (∀ (g : Fin 2) (s : State), s.sync[g].locked = false → s.sync[g].good = 5 → s.group[g].state = .off →
    (s.sts.mode = .normal ∨ s.sts.mode = .reduced) → s.group[g].overcurrent = false → s.group[g].temp = false →
    s.group[g].channel = false →
    exec (.syncStateChange g) s = .next { s with
      sync := s.sync.set g { s.sync[g] with locked := true, bad := 0 }
      group := s.group.set g { s.group[g] with
                               state := .starting, alpha := 1500, currentLimit := false, phasedBack := false
                               begun := false, anchor := none, delay := none }
      events := pushEvent s.events
        (s.event .rcu (g.val + 1) .groupState (BitVec.ofNat 16 ((g.val + 1) * 256 + 1))
          (BitVec.ofNat 16 (gReasonCode .start)) .none) })

/-- FIRING_INSTANT where firing is not permitted, and FIRING_PULSE_END (R116): no pulse without STARTING or RUNNING, a
LOCKED sync and a feeding station; the pulse's end releases the output. The soft start (R118, R123): while a group is
STARTING its step is at most 5, and at the first update with an error of 10 or less it enters RUNNING and logs
GROUP_STATE. -/
def Obligations.FiringPermittedAndSoftStart : Prop :=
  (∀ (g : Fin 2) (m : Fin 6) (s : State), s.quiet = true →
    (s.group[g].state.fires = false ∨ s.sync[g].locked = false ∨ (s.sts.mode ≠ .normal ∧ s.sts.mode ≠ .reduced) →
      exec (.firingInstant g m) s = .next s) ∧
    exec (.firingPulseEnd g) s = .next { s with group := s.group.set g { s.group[g] with pulse := none } }) ∧
  (∀ (g : Fin 2) (m : Fin 6) (s : State), s.quiet = true → s.group[g].state = .starting → s.sync[g].locked = true →
    (s.sts.mode = .normal ∨ s.sts.mode = .reduced) → (s.reading chUB).health ≠ .stale →
    ∃ t u, exec (.firingInstant g m) s = .next t ∧ t.group[g].last = some u ∧ u.step ≤ 5 ∧
      u.e = u.uref - (s.reading chUB).value ∧
      (u.e ≤ 10 →
        t.group[g].state = .running ∧
        t.events = pushEvent s.events
          (s.event .rcu (g.val + 1) .groupState (BitVec.ofNat 16 ((g.val + 1) * 256 + 2))
            (BitVec.ofNat 16 (gReasonCode .running)) .none)) ∧
      (10 < u.e → t.group[g].state = .starting ∧ t.events = s.events) ∧
      GroupOnly g s t)

/-- FIRING_INSTANT with firing permitted (R115 to R119, R123): the pulse is given to the next thyristor, which advances
from 6 back to 1, and one regulator update is made on the latest record unless it marks UB STALE. Below the current
limit and the overvoltage, in RUNNING, the angle moves by the clamped proportional step within its range; at ILIM the
step is −20; at UOV the angle goes to 1500 with PHASED_BACK. Each instant lies 30° + 60° (m − 1) and the angle after the
phase-A crossing of the thyristor's own cycle. That the operand m names the first thyristor to be fired after a start,
and which crossing is its own, is the model's choice (log 28). -/
def Obligations.FiringUpdatesAngle : Prop :=
  ∀ (g : Fin 2) (m : Fin 6) (s : State), s.quiet = true → s.group[g].state = .running → s.sync[g].locked = true →
    (s.sts.mode = .normal ∨ s.sts.mode = .reduced) →
    let n : Fin 6 := if s.group[g].begun = true then s.group[g].next else m
    let own : Option Nat :=
      if s.group[g].begun = true then s.group[g].anchor
      else if m.val < 3 ∨ (m.val = 3 ∧ s.sync[g].seen ≠ .nothing) then s.sync[g].lastCross else s.sync[g].prevCross
    let r : GroupRec := { s.group[g] with
      next := n + 1, begun := true, pulse := some n
      anchor := if n.val ≠ 5 then own else if s.sync[g].lastCross = own then none else s.sync[g].lastCross }
    let ub := (s.reading chUB).value
    let uf : Int := (s.uset : Int) -
      ((s.station.droop : Int) * ((s.reading (chIG 0)).value + (s.reading (chIG 1)).value)).tdiv 1000
    let p : Int := max (-20) (min 20 (((uf - ub) * (s.station.ka : Int)).tdiv 16))
    let ilim : Nat := if s.sts.mode = .reduced then s.station.ilimSingle else s.station.ilimG
    let last (step : Int) : Option Update :=
      some { uref := uf, e := uf - ub, step := step, ub := ub, frame := s.aqu.latest.number }
    let moved (step : Int) : Nat := (max (s.station.alphaMin : Int) (min 1500 ((s.group[g].alpha : Int) - step))).toNat
    (∀ cross period, s.group[g].anchor = some cross → s.sync[g].period = some period →
      s.firingTime g = some (cross + (300 + 600 * s.group[g].next.val + s.group[g].alpha) * period / 3600)) ∧
    ((s.reading chUB).health = .stale →
      exec (.firingInstant g m) s = .next { s with group := s.group.set g r }) ∧
    ((s.reading chUB).health ≠ .stale → (s.station.uov : Int) ≤ ub → (s.reading (chIG g)).value < ilim →
      exec (.firingInstant g m) s = .next { s with
        group := s.group.set g
          { r with alpha := 1500, phasedBack := true, currentLimit := false, last := last p } }) ∧
    ((s.reading chUB).health ≠ .stale → s.group[g].phasedBack = true → (s.station.uov : Int) - 20 ≤ ub →
      ub < s.station.uov → (s.reading (chIG g)).value < ilim →
      exec (.firingInstant g m) s = .next { s with
        group := s.group.set g { r with alpha := 1500, currentLimit := false, last := last p } }) ∧
    ((s.reading chUB).health ≠ .stale → ub < s.station.uov →
      (s.group[g].phasedBack = false ∨ ub < (s.station.uov : Int) - 20) →
      ((s.reading (chIG g)).value < ilim →
        exec (.firingInstant g m) s = .next { s with
          group := s.group.set g
            { r with alpha := moved p, phasedBack := false, currentLimit := false, last := last p } }) ∧
      ((ilim : Int) ≤ (s.reading (chIG g)).value →
        exec (.firingInstant g m) s = .next { s with
          group := s.group.set g
            { r with alpha := moved (-20), phasedBack := false, currentLimit := true, last := last (-20) } }))

/-- OVERCURRENT (R121, R124, R125): the second counted frame at or above IG_TRIP makes the cause present and takes the
group to BLOCKED, with its delay loaded and the block cause recorded. GROUP_STATE carries the capture store's answer to
the trigger GROUP_BLOCK (R186). RESTART_DELAY_EXPIRY and RESTART_HISTORY_AGEING (R126): without a cause and with the
station feeding, fewer than two restarts in the last 600 s give another, recorded with the elapsed time; with two the
group locks with cause RESTARTS and is no longer available. A cause that stands holds the group in BLOCKED. Ageing takes
the oldest entry away once it is 600 s old; that a restart taken before it counts the entry is the rule's own word, and
that it removes only older ones is how the model meets it (log 34). A delay that has not run out does not expire (log
1). -/
def Obligations.OvercurrentBlocksThenRestarts : Prop :=
  (∀ (g : Fin 2) (s : State), s.group[g].state.fires = true → s.group[g].ocRun = 2 →
    exec (.overcurrent g) s = .next { s with
      group := s.group.set g { s.group[g] with
                               state := .blocked, alpha := 1500, currentLimit := false, phasedBack := false
                               ocRun := 0, next := 0, begun := false, anchor := none, pulse := none
                               delay := some 5000, overcurrent := true, blockCause := some .overcurrent }
      events := pushEvent s.events
        (s.event .rcu (g.val + 1) .groupState (BitVec.ofNat 16 ((g.val + 1) * 256 + 3))
          (BitVec.ofNat 16 (gReasonCode (.cause .overcurrent))) (s.trigger srcGroupBlock).2)
      cap := (s.trigger srcGroupBlock).1.cap }) ∧
  (∀ (g : Fin 2) (s : State), s.quiet = true →
    let young := s.group[g].history.filter fun e => decide ((s.elapsed - e).toNat ≤ 600000)
    (s.group[g].history = [] → exec (.restartHistoryAgeing g) s = .next s) ∧
    (∀ e rest, s.group[g].history = e :: rest →
      ((s.elapsed - e).toNat < 600000 → exec (.restartHistoryAgeing g) s = .next s) ∧
      (600000 ≤ (s.elapsed - e).toNat →
        exec (.restartHistoryAgeing g) s =
          .next { s with group := s.group.set g { s.group[g] with history := rest } })) ∧
    (s.group[g].delay ≠ some 0 → exec (.restartDelayExpiry g) s = .next s) ∧
    (s.group[g].state = .blocked → s.group[g].delay = some 0 → s.anyCause g = true →
      exec (.restartDelayExpiry g) s = .next { s with group := s.group.set g { s.group[g] with delay := none } }) ∧
    (s.group[g].state = .blocked → s.group[g].delay = some 0 → s.anyCause g = false →
      (s.sts.mode = .normal ∨ s.sts.mode = .reduced) →
      (young.length < 2 →
        exec (.restartDelayExpiry g) s = .next { s with
          group := s.group.set g { s.group[g] with
                                   state := .starting, alpha := 1500, currentLimit := false, phasedBack := false
                                   begun := false, anchor := none, delay := none
                                   history := young ++ [s.elapsed] }
          events := pushEvent s.events
            (s.event .rcu (g.val + 1) .groupState (BitVec.ofNat 16 ((g.val + 1) * 256 + 1))
              (BitVec.ofNat 16 (gReasonCode .restart)) .none) }) ∧
      (2 ≤ young.length → s.sts.available = s.availableGroups → s.sts.run = true →
        ∃ t, exec (.restartDelayExpiry g) s = .next t ∧ t.group[g].state = .locked ∧
          t.group[g].lockRestarts = true ∧ t.group[g].history = young ∧
          t.sts.available = s.sts.available - 1 ∧ t.sts.mode = modeOfCount t.sts.available ∧
          EventsGrow s.events t.events ∧
          t = { s with group := t.group, sts := t.sts, events := t.events })))

/-- SET_VOLTAGE (R132): in every mode but START the value, clamped to 600..900, becomes the runtime set point and is in
the reply; in START it is refused with the mode. ENABLE_GROUP, DISABLE_GROUP and RESET_GROUP (R121, R129, R130, R131)
outside START and with RUN clear: only DISABLED is enabled, only LOCKED is reset, with its history emptied, and every
state can be disabled; the count of available groups follows. In any other state Enable and Reset are refused with the
group's state. -/
def Obligations.GroupAndVoltageRequests : Prop :=
  (∀ (v : Nat) (tag : Byte) (s : State), s.ready → v < 65536 →
    (s.sts.mode = .start →
      Answers (.setVoltage tag (beBytes 2 v)) s 0x34 tag s.heard .refusedState (.mode .start)) ∧
    (s.sts.mode ≠ .start →
      ∃ a, Answers (.setVoltage tag (beBytes 2 v)) s 0x34 tag { s.heard with uset := a } .ok (.voltage a) ∧
        600 ≤ a ∧ a ≤ 900 ∧ (600 ≤ v → v ≤ 900 → a = v) ∧ (v < 600 → a = 600) ∧ (900 < v → a = 900))) ∧
  (∀ (g : Fin 2) (tag : Byte) (s : State), s.ready → s.sts.mode ≠ .start → s.sts.run = false →
    s.sts.mode ≠ .normal → s.sts.mode ≠ .reduced → s.sts.available = s.availableGroups →
    let pl := [BitVec.ofNat 8 (g.val + 1)]
    let r : GroupRec := { s.group[g] with
      alpha := 1500, currentLimit := false, phasedBack := false, ocRun := 0, next := 0, begun := false, anchor := none
      pulse := none, delay := none }
    let q (st : Nat) : List Event := pushEvent s.events
      (s.event .rcu (g.val + 1) .groupState (BitVec.ofNat 16 ((g.val + 1) * 256 + st))
        (BitVec.ofNat 16 (gReasonCode .request)) .none)
    let left (n : Nat) (r : GroupRec) (st : Nat) : State := { s.heard with
      group := s.group.set g r, sts := { s.heard.sts with available := n }, events := q st }
    (s.group[g].state = .disabled →
      Answers (.enableGroup tag pl) s 0x31 tag (left (s.sts.available + 1) { r with state := .off } 0) .ok .empty ∧
      Answers (.disableGroup tag pl) s 0x32 tag s.heard .ok .empty) ∧
    (s.group[g].state ≠ .disabled →
      Answers (.enableGroup tag pl) s 0x31 tag s.heard .refusedState (.groupState s.group[g].state) ∧
      Answers (.disableGroup tag pl) s 0x32 tag
        (left (if s.group[g].state = .locked then s.sts.available else s.sts.available - 1)
          { r with state := .disabled } 5) .ok .empty) ∧
    (s.group[g].state = .locked →
      Answers (.resetGroup tag pl) s 0x33 tag
        (left (s.sts.available + 1) { r with state := .off, history := [] } 0) .ok .empty) ∧
    (s.group[g].state ≠ .locked →
      Answers (.resetGroup tag pl) s 0x33 tag s.heard .refusedState (.groupState s.group[g].state)))

-- ===================================================================== station (chapter 7)

/-- SETTINGS_LOAD_COMPLETE once the address is read (R134, R183, R210): a good image gives every live record, a bad one
gives the factory defaults, the settings-lost mark and SETTINGS_LOST; the set point and the active descriptor follow.
The event carries the UNSET mark as it stands (log 40). STORE_SETTINGS and STORE_COMPLETE (R198, R207, R208): outside
IDLE the request is BUSY, told apart from the port's own BUSY by a payload whose bytes are not laid out (log 23); in
IDLE it is ACCEPTED in every mode, the live records are copied and the stored CRC is marked invalid. At the end the
image holds the 445 bytes of the copy and the CRC-32 formed over them, SETTINGS_STORED carries the CRC, and a confirmed
settings-lost mark clears. That the image changes as one whole then is the model's choice (log 31). LOAD_DEFAULTS (R43,
R47, R206, R209): BUSY outside IDLE (log 23), refused with the mode outside STANDBY. Taken, every live record is its
factory default, every section falls to SINGLE, every terminal takes its default, the image is left, and a settings-lost
mark has the confirmation mark set. The runtime set point is left as it is. -/
def Obligations.SettingsLoadedStoredDefaulted : Prop :=
  (∀ (c : Settings) (s : State), s.quiet = true → s.sst.activity = .loading → s.sts.address ≠ none →
    (s.sst.imageCrc = some (crc32 s.sst.image) → parseImage s.sst.image = some c →
      exec .settingsLoadComplete s = .next { s with
        sst := { s.sst with activity := .idle, live := c, lost := false, confirm := false }
        uset := c.station.uset, cap := { s.cap with active := c.capture } }) ∧
    ((s.sst.imageCrc ≠ some (crc32 s.sst.image) ∨ parseImage s.sst.image = none) →
      exec .settingsLoadComplete s = .next { s with
        sst := { s.sst with activity := .idle, live := .default, lost := true, confirm := false }
        uset := 780, cap := { s.cap with active := .default }
        events := pushEvent s.events (s.event .sst 0 .settingsLost 0 0 .none) })) ∧
  (∀ (tag : Byte) (s : State),
    (s.ready → s.sst.activity ≠ .idle →
      Answers (.storeSettings tag []) s 0x52 tag s.heard .busy .storeBusy) ∧
    (s.ready → s.sst.activity = .idle →
      Answers (.storeSettings tag []) s 0x52 tag
        { s.heard with sst := { s.sst with activity := .storing, copy := some s.cfg, imageCrc := none } }
        .accepted .empty) ∧
    (∀ c : Settings, s.quiet = true → s.sst.activity = .storing → s.sst.copy = some c →
      c.image.length = 445 ∧
      exec .storeComplete s = .next { s with
        sst := { s.sst with
          activity := .idle, copy := none, image := c.image, imageCrc := some (crc32 c.image), confirm := false
          lost := s.sst.lost && !s.sst.confirm }
        events := pushEvent s.events
          (s.event .sst 0 .settingsStored ((crc32 c.image).extractLsb' 16 16) ((crc32 c.image).extractLsb' 0 16)
            .none) })) ∧
  (∀ (tag : Byte) (s : State), s.ready →
    let c : Instr := .loadDefaults tag []
    (s.sst.activity ≠ .idle → Answers c s 0x53 tag s.heard .busy .storeBusy) ∧
    (s.sst.activity = .idle → s.sts.mode ≠ .standby →
      Answers c s 0x53 tag s.heard .refusedState (.mode s.sts.mode)) ∧
    (s.sst.activity = .idle → s.sts.mode = .standby →
      ∃ t, Answers c s 0x53 tag t .ok .empty ∧
        t.sst = { s.sst with live := Settings.default, confirm := s.sst.confirm || s.sst.lost } ∧
        (∀ k : Fin 6, t.sec[k].double = false ∧ t.sec[k].summary = .unknown ∧ t.sec[k].itTelegram = false) ∧
        (∀ i : Fin 16, t.term[i].cfg = { mode := .inPlain, fn := .none, eventEnable := false, source := none }) ∧
        t.uset = s.uset ∧ t.aqu = s.aqu ∧ t.sync = s.sync ∧ t.bfb = s.bfb ∧ t.elapsed = s.elapsed ∧
        t.energy = s.energy ∧ t.avg = s.avg ∧ t.pending = s.pending ∧ EventsGrow s.events t.events))

/-- START_COMPLETE (R52, R82, R89, R137, R139, R168): with record 16 published and the load complete every feeder is
adopted as its breaker reads, and what it kept through START acts on it: a failure of IFk takes it to LOCKED_OUT or
trips it toward it, a station trip to BLOCKED with cause STATION or trips it toward it, a failure of ULk sets the lost
mark. The start steps are COMPLETE, the station is in STANDBY unless it is SAFE already, and the supervision timer and
the terminals take their settings; an IT_IN input asserted then trips a feeder adopted CLOSED. In SAFE every
intertrip_out ends set, cleared by an adoption CLOSED and set again (log 12). The premise StartHolds is an invariant of
the machine, stated apart. -/
def Obligations.StartEndsInStandby : Prop :=
  ∀ s : State, StartHolds s → s.sts.complete = false → s.sts.address ≠ none → 16 ≤ s.aqu.latest.number.toNat →
    s.sst.activity ≠ .loading →
    let input (t : Fin 16) (k : Fin 6) : Prop :=
      s.cfg.terminals[t].mode.isInput = true ∧ s.cfg.terminals[t].fn = .itIn k
    ∃ u, exec .startComplete s = .next u ∧ u.sts.complete = true ∧
      u.sts.mode = (if s.sts.mode = .start then .standby else .safe) ∧
      (∀ k : Fin 6, u.feeder[k].kept = [] ∧
        (s.sts.mode = .safe → u.sec[k].itOut = true) ∧
        (s.sts.mode = .start → s.bfb[k].reported = true → u.sec[k].itOut = false) ∧
        (Kept.voltageFailed ∈ s.feeder[k].kept → u.feeder[k].lost = true) ∧
        ((∀ t, ¬ input t k) →
          (Kept.currentFailed ∈ s.feeder[k].kept → u.feeder[k].lockCause = .channel ∧
            (s.bfb[k].reported = true → u.feeder[k].state = .opening ∧ u.feeder[k].dest = some .lockedOut) ∧
            (s.bfb[k].reported = false → u.feeder[k].state = .lockedOut)) ∧
          (Kept.currentFailed ∉ s.feeder[k].kept → Kept.stationTrip ∈ s.feeder[k].kept →
            u.feeder[k].blockCause = .station ∧
            (s.bfb[k].reported = true → u.feeder[k].state = .opening ∧ u.feeder[k].origin = .station ∧
              u.feeder[k].dest = some .blocked) ∧
            (s.bfb[k].reported = false → u.feeder[k].state = .blocked)) ∧
          (Kept.currentFailed ∉ s.feeder[k].kept → Kept.stationTrip ∉ s.feeder[k].kept →
            u.feeder[k].state = (if s.bfb[k].reported = true then .closed else .open) ∧
            (s.bfb[k].reported = true → u.feeder[k].timer = some ((s.general k).tReclaim * 1000) ∧
              u.disc[k].windowOpen = s.disc[k].windowOpen))) ∧
        (∀ t, input t k → s.cfg.terminals[t].mode.sampled (s.lines.getLsbD t.val) = true → s.sec[k].itIn = false →
          s.feeder[k].kept = [] → s.bfb[k].reported = true →
          u.feeder[k].state = .opening ∧ u.feeder[k].origin = .intertrip)) ∧
      u.sts.supTimer =
        (if s.station.hostSupervision = 0 then none else some (s.station.hostSupervision * 1000)) ∧
      (∀ t : Fin 16, u.term[t].cfg = s.cfg.terminals[t]) ∧
      (s.sts.mode = .start → (∀ k : Fin 6, s.feeder[k].kept = []) → (∀ t k, ¬ input t k) →
        ∀ a, s.sts.address = some a →
        u.events = pushEvent s.events (s.event .sts 0 .stationMode 1
          (BitVec.ofNat 16 (modeCauseCode
            (if a.toNat = 0 ∨ 250 < a.toNat then .addressInvalid else .startEnd))) .none)) ∧
      EventsGrow s.events u.events ∧ (∀ g : Fin 2, u.group[g].state = s.group[g].state) ∧
      u.aqu = s.aqu ∧ u.sst = s.sst ∧ u.sync = s.sync ∧ u.link = s.link ∧ u.cmp = s.cmp ∧
      u.uset = s.uset ∧ u.elapsed = s.elapsed ∧ u.bfb = s.bfb

/-- The entry to SAFE by FRAME_FAULT (R51, R83, R127, R143, R144, R147): the event carries the IFE value and the
counter, the counter goes to 0, RUN is cleared, every feeder is tripped or blocked save those LOCKED_OUT, every
intertrip_out is set and no group starts, runs or waits for a restart. The trips and then the entry to SAFE are handed
to the capture store, and STATION_MODE carries its answer (R186); that the trips are handed by ascending feeder is the
model's reading (log 32). -/
def Obligations.FrameFaultTakesStationSafe : Prop :=
  ∀ s : State, s.sts.ffDue = true → s.sts.frameFault = false → s.sts.mode ≠ .safe → s.sts.complete = true →
    ∃ t, exec .frameFault s = .next t ∧ t.sts.frameFault = true ∧ t.sts.ffCount = 0 ∧ t.sts.mode = .safe ∧
      t.sts.run = false ∧
      (∀ k : Fin 6, t.sec[k].itOut = true ∧
        (s.feeder[k].state = .closed ∨ s.feeder[k].state = .closing →
          t.feeder[k].state = .opening ∧ t.feeder[k].origin = .station ∧ t.feeder[k].dest = some .blocked ∧
          t.feeder[k].blockCause = .station) ∧
        (s.feeder[k].state = .open ∨ s.feeder[k].state = .deadTime ∨ s.feeder[k].state = .waitPartner ∨
          s.feeder[k].state = .lineTest → t.feeder[k].state = .blocked ∧ t.feeder[k].blockCause = .station) ∧
        (s.feeder[k].state = .opening → s.feeder[k].dest ≠ some .lockedOut →
          t.feeder[k] = { s.feeder[k] with dest := some .blocked, blockCause := .station }) ∧
        (s.feeder[k].state = .lockedOut ∨ s.feeder[k].state = .blocked ∨
            (s.feeder[k].state = .opening ∧ s.feeder[k].dest = some .lockedOut) →
          t.feeder[k] = s.feeder[k])) ∧
      (∀ g : Fin 2, (s.group[g].state.fires = true ∨ s.group[g].state = .blocked → t.group[g].state = .off) ∧
        (s.group[g].state = .off ∨ s.group[g].state = .locked ∨ s.group[g].state = .disabled →
          t.group[g] = s.group[g])) ∧
      (let trips := ((feeders6.filter fun j => s.feeder[j].state == .closed || s.feeder[j].state == .closing).map
          srcTrip).foldl (fun s n => (s.trigger n).1) s
       t.cap = (trips.trigger srcStation).1.cap ∧ ∃ q, EventsGrow
          (pushEvent (pushEvent s.events
            (s.event .sts 0 .frameFault (BitVec.ofInt 16 s.sts.ffValue) (BitVec.ofNat 16 s.sts.ffCount) .none))
            (s.event .sts 0 .safeCause (safeCauseValue .frameFault) 0 .none)) q ∧
        t.events = pushEvent q (s.event .sts 0 .stationMode 4 (BitVec.ofNat 16 (modeCauseCode .safe))
          (trips.trigger srcStation).2)) ∧
      t = { s with
        feeder := t.feeder, disc := t.disc, sec := t.sec, group := t.group, sts := t.sts, events := t.events
        cap := t.cap }

/-- RAIL_EARTH_OPERATE, RAIL_HOLD_EXPIRY and RAIL_HISTORY_AGEING (R148, R149): with a contactor fitted the first two
operations within 60 s hold it closed for T_RPL, the third latches it; at the hold's end a potential that reads below
URP_SET releases it, any other restarts the hold. Ageing removes the oldest operation once it is 60 s old, and an
operation taken before the ageing still counts it (R149; that R148 would not is the model's choice, log 34). A hold that
has not run out does not expire (log 1). -/
def Obligations.RailContactHeldLatchedReleased : Prop :=
  ∀ s : State,
    let young := s.sts.railHistory.filter fun e => decide ((s.elapsed - e).toNat ≤ 60000)
    let stage : Nat := if s.sts.stage2Due = true then 2 else 1
    let zero : Sts := { s.sts with stage1 := 0, stage2 := 0, stage1Due := false, stage2Due := false }
    let mag := (s.reading chUR).value.natAbs
    let q (a : RailAction) (v : Nat) : List Event := pushEvent s.events
      (s.event .sts 0 .railEarth (BitVec.ofNat 16 (railActionCode a)) (BitVec.ofNat 16 v) .none)
    (s.railDue = true → s.rplFitted = true → young.length < 2 →
      exec .railEarthOperate s = .next { s with
        sts := { zero with
          contact := .held, hold := some (s.station.tRpl * 1000), railHistory := young ++ [s.elapsed] }
        events := q .operated stage }) ∧
    (s.railDue = true → s.rplFitted = true → 2 ≤ young.length →
      exec .railEarthOperate s = .next { s with
        sts := { zero with contact := .latched, hold := none, railHistory := young }, events := q .latched stage }) ∧
    (s.quiet = true → s.sts.contact = .held → s.sts.hold = some 0 → (s.reading chUR).health = .good →
      mag < s.station.urpSet →
      exec .railHoldExpiry s = .next { s with
        sts := { s.sts with contact := .released, hold := none }, events := q .released mag }) ∧
    (s.quiet = true → s.sts.contact = .held → s.sts.hold = some 0 →
      ((s.reading chUR).health ≠ .good ∨ s.station.urpSet ≤ mag) →
      exec .railHoldExpiry s = .next { s with
        sts := { s.sts with hold := some (s.station.tRpl * 1000) }
        events := q .holdRestarted (if (s.reading chUR).health = .good then mag else 0) }) ∧
    (s.quiet = true → (s.sts.contact ≠ .held ∨ s.sts.hold ≠ some 0) → exec .railHoldExpiry s = .next s) ∧
    (s.quiet = true → s.sts.railHistory = [] → exec .railHistoryAgeing s = .next s) ∧
    (s.quiet = true → ∀ e rest, s.sts.railHistory = e :: rest →
      ((s.elapsed - e).toNat < 60000 → exec .railHistoryAgeing s = .next s) ∧
      (60000 ≤ (s.elapsed - e).toNat →
        exec .railHistoryAgeing s = .next { s with sts := { s.sts with railHistory := rest } }))

/-- RESET_RAIL_EARTHING (R150): refused in START with the mode, NOT_FITTED without a terminal assigned RPL_OUT, taken
when the contact is LATCHED, and refused with the contact state otherwise. Without such a terminal an operation of the
element is logged with its stage and sets both stages to 0; it neither holds nor latches, and keeps no history. -/
def Obligations.ResetRailReleasesLatched : Prop :=
  ∀ (tag : Byte) (s : State),
    let c : Instr := .resetRailEarthing tag []
    let fitted : Prop := ∃ t : Fin 16, s.term[t].cfg.fn = .rplOut
    (s.ready → s.sts.mode = .start → Answers c s 0x07 tag s.heard .refusedState (.mode .start)) ∧
    (s.ready → s.sts.mode ≠ .start → ¬ fitted → Answers c s 0x07 tag s.heard .notFitted .empty) ∧
    (s.ready → s.sts.mode ≠ .start → fitted → s.sts.contact ≠ .latched →
      Answers c s 0x07 tag s.heard .refusedState (.contact s.sts.contact)) ∧
    (s.ready → s.sts.mode ≠ .start → fitted → s.sts.contact = .latched →
      Answers c s 0x07 tag
        { s.heard with
          sts := { s.heard.sts with
            contact := .released, hold := none, railHistory := [], stage1 := 0, stage2 := 0, stage1Due := false
            stage2Due := false }
          events := pushEvent s.events
            (s.event .sts 0 .railEarth (BitVec.ofNat 16 (railActionCode .reset)) 0 .none) } .ok .empty) ∧
    (s.sts.contact = .released → s.sts.urInService = true → 
      (s.sts.stage1Due = true ∨ s.sts.stage2Due = true) → ¬ fitted →
      exec .railEarthOperate s = .next { s with
        sts := { s.sts with stage1 := 0, stage2 := 0, stage1Due := false, stage2Due := false }
        events := pushEvent s.events
          (s.event .sts 0 .railEarth (BitVec.ofNat 16 (railActionCode .operated))
            (if s.sts.stage2Due = true then 2 else 1) .none) })

/-- HOST_SUPERVISION_EXPIRY (R128, R152, R153): the station computer is ABSENT, HOST_ABSENT carries the setting, and the
set point goes to its stored default. A timer that a request taken first has loaded again does not expire, and the
setting is the one that stands at the expiry (log 33). While it is ABSENT the effective limit of attempts is at most 1,
and the next request that counts makes it PRESENT again, logs HOST_PRESENT and leaves the set point. -/
def Obligations.HostAbsenceAndReturn : Prop :=
  ∀ (tag : Byte) (s : State), s.quiet = true →
    (s.sts.supTimer ≠ some 0 → exec .hostSupervisionExpiry s = .next s) ∧
    (s.sts.supTimer = some 0 →
      ∃ t, exec .hostSupervisionExpiry s = .next t ∧
        t = { s with
          sts := { s.sts with present := false, supTimer := none, absentSince := s.elapsed }
          uset := s.station.uset
          events := pushEvent s.events
            (s.event .sts 0 .hostAbsent (BitVec.ofNat 16 s.station.hostSupervision) 0 .none) } ∧
        ∀ k : Fin 6, t.effectiveLimit k = min (s.general k).nAr 1) ∧
    (s.sts.present = false → s.cmp.reply = none → s.cmp.restartPending = false →
      let t : State := { s.heard with
        sts := { s.heard.sts with present := true }
        events := pushEvent s.events
          (s.event .sts 0 .hostPresent
            (BitVec.ofNat 16 (min 65535 ((s.elapsed - s.sts.absentSince).toNat / 1000))) 0 .none) }
      Answers (.readEnergy tag []) s 0x11 tag t .ok (.energy s.energy))

/-- RUN_STATION (R122, R140, R141): taken in STANDBY with RUN clear, a group available and no lost settings, it gives
NORMAL with two groups and REDUCED with one; in NORMAL and REDUCED it is answered OK and changes nothing; otherwise it
is refused. The reply carries mode, available groups and settings-lost mark. STANDBY_STATION (R127, R142): in STANDBY,
NORMAL and REDUCED it is answered OK and clears RUN; a feeding station enters STANDBY and its starting, running and
blocked groups go to OFF. It is refused in START and SAFE. RESUME_STATION (R51, R83, R146): taken in SAFE without a SAFE
cause and with the start steps COMPLETE; the station is in STANDBY with RUN clear, feeders BLOCKED with cause STATION
are OPEN, and intertrip_out is cleared save for feeders LOCKED_OUT. A feeder still OPENING toward BLOCKED with cause
STATION goes to OPEN instead, also where its breaker already reads released (the model's reading, log 42). In SAFE it is
otherwise refused with the causes present. -/
def Obligations.RunStandbyResumeStation : Prop :=
  (∀ (tag : Byte) (s : State), s.ready →
    let c : Instr := .runStation tag []
    let n := vcount (fun r => r.state.available) s.group
    let mode : Mode := if n = 1 then .reduced else .normal
    let taken : Prop := s.sts.mode = .standby ∧ s.sts.complete = true ∧ s.sts.run = false ∧ n ≠ 0 ∧ s.sst.lost = false
    (s.sts.mode = .normal ∨ s.sts.mode = .reduced →
      Answers c s 0x02 tag s.heard .ok (.runStation s.sts.mode n s.sst.lost)) ∧
    (s.sts.mode ≠ .normal → s.sts.mode ≠ .reduced → ¬ taken →
      Answers c s 0x02 tag s.heard .refusedState (.runStation s.sts.mode n s.sst.lost)) ∧
    (taken →
      ∃ t, Answers c s 0x02 tag t .accepted (.runStation mode n false) ∧
        t.sts = { s.heard.sts with run := true, mode := mode } ∧
        (∀ g : Fin 2,
          (s.group[g].state = .off → s.anyCause g = false → t.group[g].state = .starting ∧ t.group[g].alpha = 1500) ∧
          (s.group[g].state ≠ .off ∨ s.anyCause g = true → t.group[g] = s.group[g])) ∧
        EventsGrow
          (pushEvent s.events (s.event .sts 0 .stationMode (BitVec.ofNat 16 mode.code)
            (BitVec.ofNat 16 (modeCauseCode .runRequest)) .none)) t.events ∧
        t = { s.heard with sts := t.sts, group := t.group, events := t.events })) ∧
  (∀ (tag : Byte) (s : State), s.ready →
    let c : Instr := .standbyStation tag []
    (s.sts.mode = .start ∨ s.sts.mode = .safe → Answers c s 0x03 tag s.heard .refusedState .empty) ∧
    (s.sts.mode = .standby →
      Answers c s 0x03 tag { s.heard with sts := { s.heard.sts with run := false } } .ok .empty) ∧
    (s.sts.mode = .normal ∨ s.sts.mode = .reduced →
      ∃ t, Answers c s 0x03 tag t .ok .empty ∧ t.sts = { s.heard.sts with run := false, mode := .standby } ∧
        (∀ g : Fin 2,
          (s.group[g].state.fires = true ∨ s.group[g].state = .blocked →
            t.group[g].state = .off ∧ t.group[g].pulse = none ∧ t.group[g].delay = none) ∧
          (s.group[g].state.fires = false → s.group[g].state ≠ .blocked → t.group[g] = s.group[g])) ∧
        EventsGrow
          (pushEvent s.events (s.event .sts 0 .stationMode 1 (BitVec.ofNat 16 (modeCauseCode .standbyRequest)) .none))
          t.events ∧
        t = { s.heard with sts := t.sts, group := t.group, events := t.events })) ∧
  (∀ (tag : Byte) (s : State), s.ready →
    let c : Instr := .resumeStation tag []
    (s.sts.mode ≠ .safe → Answers c s 0x04 tag s.heard .refusedState .empty) ∧
    (s.sts.mode = .safe → s.safeCauses.any = true ∨ s.sts.complete = false →
      Answers c s 0x04 tag s.heard .refusedState (.causes s.safeCauses)) ∧
    (s.sts.mode = .safe → s.safeCauses.any = false → s.sts.complete = true →
      ∃ t, Answers c s 0x04 tag t .ok .empty ∧ t.sts = { s.heard.sts with run := false, mode := .standby } ∧
        (∀ k : Fin 6,
          (s.feeder[k].state = .blocked → s.feeder[k].blockCause = .station → t.feeder[k].state = .open) ∧
          (s.feeder[k].state = .blocked → s.feeder[k].blockCause ≠ .station → t.feeder[k] = s.feeder[k]) ∧
          (s.feeder[k].state = .opening → s.feeder[k].dest = some .blocked → s.feeder[k].blockCause = .station →
            t.feeder[k] = { s.feeder[k] with dest := some .open, blockCause := .none }) ∧
          (s.feeder[k].state = .opening → s.feeder[k].dest ≠ some .blocked ∨ s.feeder[k].blockCause ≠ .station →
            t.feeder[k] = s.feeder[k]) ∧
          (s.feeder[k].state = .lockedOut → t.feeder[k] = s.feeder[k] ∧ t.sec[k] = s.sec[k]) ∧
          (s.feeder[k].state ≠ .lockedOut → t.sec[k].itOut = false)) ∧
        t = { s.heard with
          sts := t.sts, group := t.group, feeder := t.feeder, disc := t.disc, sec := t.sec, events := t.events }))

/-- READ_STATION_STATUS, SET_TIME and RESTART (R147, R154, R155, R156, R204): the status is returned whole and in every
mode, with the supervision timer as the request has loaded it, the history of operations as ages in seconds (log 23),
the level of RPL_FB and whether the frame fault element is suspended; Set Time moves station time alone, leaves the
fraction of its millisecond (log 25) and clears its UNSET mark; Restart waits for the end of its own reply. -/
def Obligations.StatusTimeRestartAnswered : Prop :=
  ∀ (ms : Nat) (tag : Byte) (s : State), s.ready → ms < 2 ^ 48 →
    (∃ v : StationStatus, Answers (.readStationStatus tag []) s 0x01 tag s.heard .ok (.station v) ∧
      v.mode = s.sts.mode ∧ v.run = s.sts.run ∧ v.complete = s.sts.complete ∧ v.causes = s.safeCauses ∧
      v.clock = s.aqu.clock ∧ v.available = vcount (fun r => r.state.available) s.group ∧
      v.running = vcount (fun r => r.state == .running) s.group ∧ v.address = s.sts.address ∧
      (v.addressInvalid = true ↔ ∃ a, s.sts.address = some a ∧ (a.toNat = 0 ∨ 250 < a.toNat)) ∧
      v.settingsLost = s.sst.lost ∧ v.present = s.sts.present ∧ v.ffCount = s.sts.ffCount ∧
      v.contact = s.sts.contact ∧ v.urInService = s.sts.urInService ∧ v.stage1 = s.sts.stage1 ∧
      v.stage2 = s.sts.stage2 ∧ v.hold = s.sts.hold ∧ v.restartCause = s.sts.restartCause ∧
      v.supTimer = s.heard.sts.supTimer ∧
      v.railAges = s.sts.railHistory.map (fun e => (s.elapsed - e).toNat / 1000) ∧
      v.rplFb = (s.term.toList.find? (fun t => t.cfg.fn == .rplFb)).map (·.proc) ∧
      (v.ffSuspended = true ↔ s.sts.contact ≠ .released ∨
        (s.aqu.clock = .fail ∧ ∃ t : Fin 16, s.term[t].cfg.fn = .rplOut) ∨ v.rplFb = some true) ∧
      v.stationTime = s.stationTime ∧ v.unset = s.unset ∧ v.elapsed = s.elapsed) ∧
    Answers (.setTime tag (beBytes 6 ms)) s 0x05 tag
      { s.heard with stationTime := BitVec.ofNat 48 ms, unset := false } .ok .empty ∧
    Answers (.restart tag []) s 0x06 tag
      { s.heard with cmp := { s.heard.cmp with restartPending := true } } .ok .empty

-- ===================================================================== field terminals (chapter 8)

/-- THROUGH_SOURCE_CHANGE (R164): the source's line takes the level, and every THROUGH terminal that names it drives the
same level at once, with nothing sampled. SET_OUTPUT (R165): taken after START on an output terminal with function NONE,
whose output level takes the level; refused with the terminal's mode and function otherwise. That START means the start
steps PENDING here, in SAFE too, is the model's reading (log 18). READ_TERMINALS (R161, R170): answered OK with the
sixteen terminals, the breaker feedbacks and the alarm condition as they stand, and the change causes, exactly which are
cleared. An input terminal at a frame trigger (R159): a filtered input takes a level that differs from its processed
level on the twentieth sample in succession, a plain one at once. What the part's conditions drive (R145, R162, R163,
R177): the alarm condition holds in SAFE and while a feeder is LOCKED_OUT or a group LOCKED; an output terminal shows
the contact, an intertrip_out, the alarm condition or its own level by its function; ATTN is asserted after START, which
is read as the end of the start steps (log 18), while the event queue holds an entry with event attention enabled, while
a capture buffer is FULL, and in SAFE. -/
def Obligations.TerminalsFilteredSetAndRead : Prop :=
  (∀ (o : Fin 16) (level : Bool) (s : State), s.quiet = true →
    ∃ u, exec (.throughSourceChange o level) s = .next u ∧ u = { s with lines := u.lines } ∧
      u.lines.getLsbD o.val = level ∧ (∀ i : Fin 16, i ≠ o → u.lines.getLsbD i.val = s.lines.getLsbD i.val) ∧
      ∀ t : Fin 16, s.term[t].cfg.mode = .through → s.term[t].cfg.source = some o → u.driven t = some level) ∧
  (∀ (t : Fin 16) (level : Bool) (tag : Byte) (s : State), s.ready →
    let c : Instr := .setOutput tag [BitVec.ofNat 8 (t.val + 1), if level = true then 1 else 0]
    let taken : Prop := s.sts.complete = true ∧
      (s.term[t].cfg.mode = .outOpenDrain ∨ s.term[t].cfg.mode = .outPushPull) ∧ s.term[t].cfg.fn = .none
    (¬ taken →
      Answers c s 0x81 tag s.heard .refusedState (.terminalCfg s.term[t].cfg.mode s.term[t].cfg.fn)) ∧
    (taken →
      Answers c s 0x81 tag { s.heard with term := s.term.set t { s.term[t] with out := level } } .ok .empty)) ∧
  (∀ (tag : Byte) (s : State), s.ready →
    ∃ (u : State) (vs : List TermView) (bs : List Bool),
      Answers (.readTerminals tag []) s 0x80 tag u .ok (.terminals vs bs s.alarm) ∧
      u = { s.heard with term := u.term } ∧ vs.length = 16 ∧ bs.length = 6 ∧
      (∀ k : Fin 6, bs[k.val]? = some s.bfb[k].reported) ∧
      ∀ t : Fin 16, u.term[t] = { s.term[t] with change := false } ∧
        ∃ v, vs[t.val]? = some v ∧ v.mode = s.term[t].cfg.mode ∧ v.fn = s.term[t].cfg.fn ∧
          v.eventEnable = s.term[t].cfg.eventEnable ∧ v.source = s.term[t].cfg.source ∧ v.raw = s.term[t].raw ∧
          v.change = s.term[t].change ∧
          (s.term[t].cfg.mode.isInput = true → v.proc = some (s.term[t].proc, s.term[t].count))) ∧
  (∀ (r : Terminal) (raw : Bool), (r.sample raw).raw = raw ∧ (r.sample raw).cfg = r.cfg ∧
    (r.cfg.mode = .inPlain → (r.sample raw).proc = raw) ∧
    (r.cfg.mode = .inFiltered ∨ r.cfg.mode = .inFilteredInverted →
      let level : Bool := if r.cfg.mode = .inFiltered then raw else !raw
      (level = r.proc → (r.sample raw).proc = r.proc ∧ (r.sample raw).count = 0) ∧
      (level ≠ r.proc → r.count < 19 → (r.sample raw).proc = r.proc ∧ (r.sample raw).count = r.count + 1) ∧
      (level ≠ r.proc → 19 ≤ r.count → (r.sample raw).proc = level ∧ (r.sample raw).count = 0))) ∧
  (∀ s : State,
    (s.alarm = true ↔ s.sts.mode = .safe ∨ (∃ k : Fin 6, s.feeder[k].state = .lockedOut) ∨
      ∃ g : Fin 2, s.group[g].state = .locked) ∧
    (s.attn = true ↔ s.sts.complete = true ∧
      ((s.events ≠ [] ∧ s.station.eventAttention = true) ∨ s.cap.x.state = .full ∨ s.cap.y.state = .full ∨
        s.sts.mode = .safe)) ∧
    ∀ t : Fin 16,
      (s.term[t].cfg.mode = .outPushPull → s.driven t = some (s.outLevel t)) ∧
      (s.term[t].cfg.mode = .outOpenDrain → s.driven t = if s.outLevel t = true then some true else none) ∧
      (s.term[t].cfg.mode.isInput = true → s.driven t = none) ∧
      (s.term[t].cfg.fn = .alarmOut → s.outLevel t = s.alarm) ∧
      (∀ k, s.term[t].cfg.fn = .itOut k → s.outLevel t = s.sec[k].itOut) ∧
      (s.term[t].cfg.fn = .rplOut → (s.outLevel t = true ↔ s.aqu.clock = .fail ∨ s.sts.contact ≠ .released)) ∧
      (s.term[t].cfg.fn = .none → s.outLevel t = s.term[t].out))

-- ===================================================================== events (chapter 9)

/-- Appending an event (R172, R173): the entry is stamped with station time, its UNSET mark and the quarter of the
millisecond, and stands at the tail; at 256 entries the oldest is lost and its successor marked; nothing else changes.
-/
def Obligations.EventAppendMarksLoss : Prop :=
  ∀ (block : Block) (index : Nat) (kind : EventKind) (v1 v2 : Word16) (ref : CapRef) (s : State),
    let e : Event :=
      { time := s.stationTime, sub := s.subUs / 250, unset := s.unset, block := block, index := index, kind := kind
        value1 := v1, value2 := v2, ref := ref, overflow := false }
    (s.events.length < 256 → s.log block index kind v1 v2 ref = { s with events := s.events ++ [e] }) ∧
    (∀ lost next rest, s.events = lost :: next :: rest → s.events.length = 256 →
      s.log block index kind v1 v2 ref = { s with events := { next with overflow := true } :: rest ++ [e] } ∧
      (s.log block index kind v1 v2 ref).events.length = 256)

/-- COUNT_EVENTS and TAKE_EVENTS (R176): counting changes nothing; taking n of 1..8 removes the oldest n, or all there
are, and returns them oldest first; any other n is BAD_ARGUMENT at offset 0. -/
def Obligations.TakeEventsRemovesOldest : Prop :=
  ∀ (n : Nat) (tag : Byte) (s : State), s.ready → n < 256 →
    (∃ o, Answers (.countEvents tag []) s 0x60 tag s.heard .ok (.count s.events.length o) ∧
      (s.events = [] → o = false) ∧ ∀ e rest, s.events = e :: rest → o = e.overflow) ∧
    (1 ≤ n → n ≤ 8 →
      ∃ out left, s.events = out ++ left ∧ out.length = min n s.events.length ∧
        Answers (.takeEvents tag [BitVec.ofNat 8 n]) s 0x61 tag { s.heard with events := left } .ok (.events out)) ∧
    (n = 0 ∨ 8 < n →
      Answers (.takeEvents tag [BitVec.ofNat 8 n]) s 0x61 tag s.heard .badArgument (.offset 0))

-- ===================================================================== measurements and energy (chapter 9)

/-- AVERAGE_PERIOD_COMPLETE, READ_MEASUREMENTS and READ_ENERGY (R179, R180, R182): after 4000 records each mean is the
sum over its count truncated toward zero, none for a count of 0, and the next period begins empty; reading returns the
latest record, means and counters and changes nothing. FRAME_TRIGGER with the clock GOOD, as the averages and the energy
take its record (R179, R181): a GOOD channel adds its value to its sum and 1 to its count. A frame in which UB and a
feeder's current are both GOOD adds UB times the current to the feeder's accumulator, which gives up whole watt-hours to
the delivered or the returned counter; a group has the delivered counter alone; any other frame adds nothing. A frame
counts as the latest counted where one accumulator took it (log 27). One counted frame (R181), as State.feederEnergy and
State.groupEnergy apply it: it counts at most one watt-hour, delivered or returned; the watt-frames of counters and
accumulator together grow by exactly the power. -/
def Obligations.AveragesAndEnergyFormed : Prop :=
  (∀ (tag : Byte) (s : State),
    (s.avg.records = 4000 →
      ∃ t, exec .averagePeriodComplete s = .next t ∧ t = { s with avg := t.avg } ∧
        t.avg.period = s.avg.period + 1 ∧ t.avg.records = 0 ∧ t.avg.meanCounts = s.avg.counts ∧
        ∀ c : Fin 17, t.avg.sums[c] = 0 ∧ t.avg.counts[c] = 0 ∧
          t.avg.means[c] = if s.avg.counts[c] = 0 then none else some (s.avg.sums[c].tdiv s.avg.counts[c])) ∧
    (s.ready →
      Answers (.readMeasurements tag []) s 0x10 tag s.heard .ok
        (.measurements s.aqu.latest s.avg.means s.avg.meanCounts s.avg.period) ∧
      Answers (.readEnergy tag []) s 0x11 tag s.heard .ok (.energy s.energy))) ∧
  (∀ (lines : BitVec 16) (s : State), s.quiet = true → s.aqu.clock = .good →
    ∃ t, exec (.frameTrigger lines) s = .next t ∧
      t.avg = { s.avg with sums := t.avg.sums, counts := t.avg.counts, records := s.avg.records + 1 } ∧
      (∀ c : Fin 17,
        ((t.reading c).health = .good → t.avg.sums[c] = s.avg.sums[c] + (t.reading c).value ∧
          t.avg.counts[c] = s.avg.counts[c] + 1) ∧
        ((t.reading c).health ≠ .good → t.avg.sums[c] = s.avg.sums[c] ∧ t.avg.counts[c] = s.avg.counts[c])) ∧
      (let ub := t.reading chUB
       let counted (c : Fin 17) : Prop := ub.health = .good ∧ (t.reading c).health = .good
       let p (c : Fin 17) : Int := ub.value * (t.reading c).value
       let e := s.energy
       let f := t.energy
       (∀ k : Fin 6,
         (¬ counted (chIF k) → f.acc[k] = e.acc[k] ∧ f.delivered[k] = e.delivered[k] ∧ f.returned[k] = e.returned[k]) ∧
         (counted (chIF k) →
           (14400000 ≤ e.acc[k] + p (chIF k) → f.acc[k] = e.acc[k] + p (chIF k) - 14400000 ∧
             f.delivered[k] = e.delivered[k] + 1 ∧ f.returned[k] = e.returned[k]) ∧
           (e.acc[k] + p (chIF k) ≤ -14400000 → f.acc[k] = e.acc[k] + p (chIF k) + 14400000 ∧
             f.delivered[k] = e.delivered[k] ∧ f.returned[k] = e.returned[k] + 1) ∧
           (-14400000 < e.acc[k] + p (chIF k) → e.acc[k] + p (chIF k) < 14400000 →
             f.acc[k] = e.acc[k] + p (chIF k) ∧ f.delivered[k] = e.delivered[k] ∧ f.returned[k] = e.returned[k]))) ∧
       (∀ g : Fin 2,
         (¬ counted (chIG g) → f.groupAcc[g] = e.groupAcc[g] ∧ f.groupDelivered[g] = e.groupDelivered[g]) ∧
         (counted (chIG g) →
           (14400000 ≤ e.groupAcc[g] + p (chIG g) → f.groupAcc[g] = e.groupAcc[g] + p (chIG g) - 14400000 ∧
             f.groupDelivered[g] = e.groupDelivered[g] + 1) ∧
           (-14400000 < e.groupAcc[g] + p (chIG g) → e.groupAcc[g] + p (chIG g) < 14400000 →
             f.groupAcc[g] = e.groupAcc[g] + p (chIG g) ∧ f.groupDelivered[g] = e.groupDelivered[g]))) ∧
       ((∃ k : Fin 6, counted (chIF k)) ∨ (∃ g : Fin 2, counted (chIG g)) → f.lastCounted = t.aqu.latest.number) ∧
       ((∀ k : Fin 6, ¬ counted (chIF k)) → (∀ g : Fin 2, ¬ counted (chIG g)) → f.lastCounted = e.lastCounted))) ∧
  (∀ (acc p : Int), -14400000 < acc → acc < 14400000 → -12000000 ≤ p → p ≤ 12000000 →
    let r := energyStep acc p
    r.1 < 14400000 ∧ -14400000 < r.1 ∧ ¬ (r.2.1 = true ∧ r.2.2 = true) ∧
    (r.2.1 = true ↔ 14400000 ≤ acc + p) ∧ (r.2.2 = true ↔ acc + p ≤ -14400000) ∧
    r.1 + 14400000 * (if r.2.1 = true then 1 else 0) - 14400000 * (if r.2.2 = true then 1 else 0) = acc + p)

-- ===================================================================== capture store (chapter 9)

/-- A trigger handed to the store (R186): outside the active set it has no effect; with no buffer ARMED or RECORDING it
is counted missed; an ARMED buffer begins its record and a RECORDING one lists it, four at most, and counts the further
ones. That this count stays at 65535 is the model's choice (log 39). CAPTURE_COMPLETE (R184, R187): the record is FULL
with its actual post and cause, CAPTURE_DONE is logged, the toggle names the other buffer, and with the capture enabled
that one, if IDLE, is ARMED with the pending descriptor. -/
def Obligations.TriggersRecordAndComplete : Prop :=
  (∀ (src : Nat) (s : State), src < 16 →
    (s.cap.active.triggers.getLsbD src = false → s.trigger src = (s, .none)) ∧
    (s.cap.active.triggers.getLsbD src = true → s.cap.x.live = false → s.cap.y.live = false →
      s.trigger src = ({ s with cap := { s.cap with missed := min 65535 (s.cap.missed + 1) } }, .missed)) ∧
    (s.cap.active.triggers.getLsbD src = true → s.cap.x.state = .armed →
      ∃ b e, s.trigger src = ({ s with cap := { s.cap with x := b } }, .x) ∧ b.state = .recording ∧
        b.actualPre = s.cap.x.frames.length ∧ b.triggers = [e] ∧ e.source = src ∧ e.time = s.stationTime ∧
        b.frames = s.cap.x.frames ∧ b.desc = s.cap.x.desc) ∧
    (s.cap.active.triggers.getLsbD src = true → s.cap.x.state = .recording →
      (s.cap.x.triggers.length < 4 →
        ∃ e, s.trigger src =
          ({ s with cap := { s.cap with x := { s.cap.x with triggers := s.cap.x.triggers ++ [e] } } }, .x) ∧
          e.source = src) ∧
      (4 ≤ s.cap.x.triggers.length →
        s.trigger src =
          ({ s with cap := { s.cap with x := { s.cap.x with further := min 65535 (s.cap.x.further + 1) } } }, .x)))) ∧
  (∀ s : State, s.cap.x.state = .recording → s.cap.x.stop = none → s.cap.x.stopFrame = false →
    s.cap.x.desc.post ≤ s.cap.x.frames.length - s.cap.x.actualPre → s.cap.enabled = true → s.cap.y.state = .idle →
    exec .captureComplete s = .next { s with
      cap := { s.cap with
        x := { s.cap.x with
          state := .full, actualPost := s.cap.x.frames.length - s.cap.x.actualPre, cause := .postDone }
        y := { state := .armed, desc := s.cfg.capture, triggers := [], further := 0, first := 0, actualPre := 0
               actualPost := 0, cause := .none, frames := [], stop := none, stopFrame := false }
        active := s.cfg.capture, toggle := .y }
      events := pushEvent s.events
        (s.event .cps 1 .captureDone (BitVec.ofNat 16 s.cap.x.actualPre)
          (BitVec.ofNat 16 (s.cap.x.frames.length - s.cap.x.actualPre)) .x) })

/-- READ_CAPTURE_STATUS, READ_CAPTURE, RELEASE_CAPTURE, TRIGGER_CAPTURE (R190, R191, R192, R202): only a FULL buffer is
read, its frames numbered from the record's first frame, and released to IDLE, where the arming test may arm it again;
Trigger Capture is answered OK with the store's answer. The capture is disabled in the release here. STOP_CAPTURE,
ENABLE_CAPTURE and DISABLE_CAPTURE (R184, R188, R189) on buffer X with buffer Y FULL: Stop discards an ARMED ring and
arms X afresh with the pending descriptor, and leaves a RECORDING buffer its next frame; Disable discards an ARMED ring
and arms nothing; Enable arms an IDLE buffer. Without a live buffer Stop is refused. -/
def Obligations.CaptureRequestsAnswered : Prop :=
  (∀ (b : BufId) (first count : Nat) (tag : Byte) (s : State), s.ready → first < 4096 → 1 ≤ count → count ≤ 32 →
    let code : Byte := if b = .x then 0 else 1
    let r := s.cap.buf b
    let read : Instr := .readCapture tag ([code] ++ beBytes 2 first ++ [BitVec.ofNat 8 count])
    let len := r.actualPre + r.actualPost
    (∃ vx vy, Answers (.readCaptureStatus tag []) s 0x70 tag s.heard .ok
        (.captureStatus s.cap.enabled s.cap.toggle s.cap.missed s.cap.active s.cfg.capture vx vy) ∧
      vx.state = s.cap.x.state ∧ vy.state = s.cap.y.state ∧ vx.stored = s.cap.x.frames.length ∧
      vy.stored = s.cap.y.frames.length) ∧
    (r.state ≠ .full → Answers read s 0x71 tag s.heard .refusedState .empty) ∧
    (r.state = .full → len ≤ first → Answers read s 0x71 tag s.heard .badArgument (.offset 1)) ∧
    (r.state = .full → first < len → r.frames.length = len →
      ∃ fs, Answers read s 0x71 tag s.heard .ok (.frames b first fs) ∧
        fs.length = min (min count (len - first)) (508 / (4 + 3 * r.desc.count)) ∧
        ∀ i, i < fs.length → ∃ slot, r.frames[first + i]? = some slot ∧
          fs[i]? = some { number := r.first + BitVec.ofNat 32 (first + i), slot := slot }) ∧
    (r.state ≠ .full → Answers (.releaseCapture tag [code]) s 0x72 tag s.heard .refusedState .empty) ∧
    (r.state = .full → s.cap.enabled = false →
      Answers (.releaseCapture tag [code]) s 0x72 tag { s.heard with cap := s.cap.setBuf b .idle } .ok .empty) ∧
    Answers (.triggerCapture tag []) s 0x74 tag
      { s.heard with cap := (s.trigger srcManual).1.cap } .ok (.answer (s.trigger srcManual).2)) ∧
  (∀ (tag : Byte) (s : State), s.ready → s.cap.y.state = .full → s.cap.toggle = .x →
    let armed : CapBuf :=
      { state := .armed, desc := s.cfg.capture, triggers := [], further := 0, first := 0, actualPre := 0
        actualPost := 0, cause := .none, frames := [], stop := none, stopFrame := false }
    let stop : Instr := .stopCapture tag []
    (s.cap.x.state = .idle ∨ s.cap.x.state = .full →
      Answers stop s 0x73 tag s.heard .refusedState .empty ∧
      Answers (.disableCapture tag []) s 0x76 tag { s.heard with cap := { s.cap with enabled := false } } .ok .empty) ∧
    (s.cap.x.state = .idle →
      Answers (.enableCapture tag []) s 0x75 tag
        { s.heard with cap := { s.cap with enabled := true, x := armed, active := s.cfg.capture } } .ok .empty) ∧
    (s.cap.x.state ≠ .idle →
      Answers (.enableCapture tag []) s 0x75 tag { s.heard with cap := { s.cap with enabled := true } } .ok .empty) ∧
    (s.cap.x.state = .armed → s.cap.enabled = true →
      Answers stop s 0x73 tag { s.heard with cap := { s.cap with x := armed, active := s.cfg.capture } } .ok .empty ∧
      ∃ t, Answers (.disableCapture tag []) s 0x76 tag t .ok .empty ∧ t.cap.x.state = .idle ∧ t.cap.x.frames = [] ∧
        t.cap.enabled = false ∧ t.cap.y = s.cap.y ∧ t = { s.heard with cap := t.cap }) ∧
    (s.cap.x.state = .recording → s.cap.x.stop = none →
      Answers stop s 0x73 tag { s.heard with cap := { s.cap with x := { s.cap.x with stop := some .stopped } } }
        .ok .empty ∧
      Answers (.disableCapture tag []) s 0x76 tag
        { s.heard with cap := { s.cap with enabled := false, x := { s.cap.x with stop := some .disabled } } }
        .ok .empty))

-- ===================================================================== control message port (chapter 10)

/-- Characters that carry no whole frame (R195, R196): a HUNTING receiver drops every character other than A5h; a frame
whose length field is below 3 or above 515, or whose CRC does not check, is discarded; a frame abandoned by a late
character or a missing stop bit is forgotten, and a late A5h begins a new one. None of them is answered or counts as a
request: only the receiver changes. What is judged before the owner is asked (R200): a kind outside the catalogue is
UNKNOWN_KIND, a payload of the wrong length is BAD_LENGTH, an argument out of range is BAD_ARGUMENT with its offset;
nothing but the reply changes. A payload that no frame can carry is not received (log 22). -/
def Obligations.FramesDiscardedRequestsJudged : Prop :=
  (∀ (body crc gathered chars : List Byte) (late : Byte) (s : State), s.quiet = true → s.cmp.receiving = false →
    let hunting : State := { s with cmp := { s.cmp with receiving := false, rx := [] } }
    let n := 256 * (body[0]?.getD 0).toNat + (body[1]?.getD 0).toNat
    let m := 256 * (gathered[0]?.getD 0).toNat + (gathered[1]?.getD 0).toNat
    ((∀ c ∈ chars, c ≠ 0xA5) → exec (.controlFrameDiscarded chars) s = .next s) ∧
    (body.length = 2 → n < 3 ∨ 515 < n → exec (.controlFrameDiscarded (0xA5 :: body)) s = .next hunting) ∧
    (3 ≤ n → n ≤ 515 → body.length = n + 2 → crc.length = 2 → beNat crc ≠ (crc16 body).toNat →
      exec (.controlFrameDiscarded (0xA5 :: (body ++ crc))) s = .next hunting) ∧
    (gathered.length < 2 ∨ (3 ≤ m ∧ m ≤ 515 ∧ gathered.length < m + 4) →
      exec (.controlFrameAbandoned (0xA5 :: gathered) .missingStopBit) s = .next hunting ∧
      (late ≠ 0xA5 → exec (.controlFrameAbandoned (0xA5 :: gathered) (.lateCharacter late)) s = .next hunting) ∧
      exec (.controlFrameAbandoned (0xA5 :: gathered) (.lateCharacter 0xA5)) s =
        .next { s with cmp := { s.cmp with receiving := true, rx := [0xA5] } })) ∧
  (∀ (kind tag n : Byte) (pl : List Byte) (s : State), s.ready →
    (kind ∉ catalogue → pl.length ≤ 512 →
      Answers (.unknownRequest kind tag pl) s kind tag s.heard .unknownKind .empty) ∧
    (pl.length ≤ 512 → pl.length ≠ 1 →
      Answers (.closeFeeder tag pl) s 0x21 tag s.heard .badLength .empty) ∧
    (pl.length ≤ 512 → pl.length ≠ 2 →
      Answers (.setVoltage tag pl) s 0x34 tag s.heard .badLength .empty) ∧
    (n.toNat = 0 ∨ 6 < n.toNat → Answers (.closeFeeder tag [n]) s 0x21 tag s.heard .badArgument (.offset 0)) ∧
    (n.toNat = 0 ∨ 16 < n.toNat → Answers (.setOutput tag [n, 0]) s 0x81 tag s.heard .badArgument (.offset 0)) ∧
    (1 < n.toNat → Answers (.setOutput tag [1, n]) s 0x81 tag s.heard .badArgument (.offset 1)))

/-- The characters of a whole frame whose CRC-16 checks (section 10.2, R195, R196) are the request the frame carries,
whatever its kind: a receiver that hunts takes them as that request received whole. That a frame which checks can be
among the characters of CONTROL_FRAME_DISCARDED at all is the model's choice (log 22). -/
def Obligations.GoodFrameIsRequest : Prop :=
  ∀ (kind tag status : Byte) (payload : List Byte) (s : State), payload.length ≤ 512 → s.cmp.receiving = false →
    s.quiet = true →
    let body := beBytes 2 (payload.length + 3) ++ [kind, tag, status] ++ payload
    exec (.controlFrameDiscarded (0xA5 :: (body ++ beBytes 2 (crc16 body).toNat))) s =
      exec (.unknownRequest kind tag payload) s

/-- A request received whole while a reply is in progress, and REPLY_SENT (R198): it is not taken; the first is recorded
as BUSY pending, and its BUSY reply is sent when the reply in progress has been sent; a further one is discarded. While
a Restart's reply is sent every request is discarded (R204). A request counts for supervision (R152). -/
def Obligations.BusyReplyFollowsReply : Prop :=
  ∀ (kind tag : Byte) (pl : List Byte) (r : Reply) (c : Instr) (s : State), s.quiet = true → s.sts.present = true →
    s.cmp.reply = some r → pl.length ≤ 512 →
    (c = .unknownRequest kind tag pl ∨ (c = .readEnergy tag pl ∧ kind = 0x11) ∨ (c = .runStation tag pl ∧ kind = 0x02) ∨
      (c = .writeSetting tag pl ∧ kind = 0x51) ∨ (c = .closeFeeder tag pl ∧ kind = 0x21)) →
    (s.cmp.restartPending = true ∨ s.cmp.busy ≠ none → exec c s = .next s.heard) ∧
    (s.cmp.restartPending = false →
      (s.cmp.busy = none →
        exec c s = .next { s.heard with cmp := { s.heard.cmp with busy := some (kind, tag) } } ∧
        exec .replySent s = .next { s with cmp := { s.cmp with reply := none } }) ∧
      (s.cmp.busy = some (kind, tag) →
        exec .replySent s = .next { s with
          cmp := { s.cmp with
            reply := some { kind := kind + 0x80, tag := tag, status := .busy, payload := .empty }, busy := none } }))

-- ===================================================================== settings store (chapter 11)

/-- READ_SETTING and WRITE_SETTING of a group A record (R18, R19, R206): in IDLE a record whose fields lie in their
ranges and keep their relations replaces the live record whole and is in the reply; reading returns it byte for byte.
DIDT_HOLD above DIDT_START is BAD_SETTING at its offset; outside IDLE the write is BUSY; both change nothing. A kind
outside 1..8 and an index outside 1..6 are BAD_ARGUMENT. The channel list of a CAPTURE record (R183, R206): a number
past 16, or one listed twice, is BAD_SETTING at offset 1, where the list stands, and the record is left. That a doubled
number is found before a pre or post out of range is the model's reading (log 26). The write restrictions (R42, R166): a
SECTION record that passes its tests is refused with the feeder and its state while the feeder is not OPEN, BLOCKED or
LOCKED_OUT, and a TERMINAL record with the mode outside STANDBY; neither live record changes. An accepted write and its
owner (R43, R44, R120, R152, R167, R183, R206). STATION: the angle of a group that fires rises to the new αMIN, and
supervision turned off stops its timer. A FEEDER or group B record is read at its next use. SECTION: the partner fields
are cleared and the section falls to SINGLE. PARTNER: the link is DOWN and supervised afresh, the OWN telegrams for the
old address leave the old port's queue, and every section naming the entry is cleared; that it has no latest accepted
telegram is the model's reading (log 20). TERMINAL: the record is applied at once, the function left tells its owner,
and an input's first level is handed to the owner of the new one; a source written outside THROUGH is none in the reply
too (log 45). CAPTURE: the pending descriptor alone, its post reduced. -/
def Obligations.SettingsReadAndWritten : Prop :=
  (∀ (k : Fin 6) (g : GroupCfg) (tag bad : Byte) (s : State), s.ready →
    1000 ≤ g.imax → g.imax ≤ 8000 → g.imax % 10 = 0 → 200 ≤ g.diSet → g.diSet ≤ 4000 → g.diSet % 10 = 0 →
    1 ≤ g.diTime → g.diTime ≤ 200 → 10 ≤ g.didtStart → g.didtStart ≤ 2000 → 5 ≤ g.didtHold → g.didtHold < 65536 →
    200 ≤ g.iDt → g.iDt ≤ 6000 → g.iDt % 10 = 0 → g.iDt < g.imax → 100 ≤ g.tDt → g.tDt ≤ 60000 →
    let idx := BitVec.ofNat 8 (k.val + 1)
    let write : Instr := .writeSetting tag (3 :: idx :: encodeGroup g)
    (s.sst.activity ≠ .idle → Answers write s 0x51 tag s.heard .busy (.setting 3 idx [])) ∧
    (s.sst.activity = .idle → g.didtStart < g.didtHold →
      Answers write s 0x51 tag s.heard .badSetting (.offset 7)) ∧
    (s.sst.activity = .idle → g.didtHold ≤ g.didtStart →
      Answers write s 0x51 tag
        { s.heard with
          sst := { s.sst with
            live := { s.cfg with groupA := s.cfg.groupA.set k g }, confirm := s.sst.confirm || s.sst.lost } }
        .ok (.setting 3 idx (encodeGroup g))) ∧
    (s.cfg.groupA[k] = g →
      Answers (.readSetting tag [3, idx]) s 0x50 tag s.heard .ok (.setting 3 idx (encodeGroup g)) ∧
      parseGroup (encodeGroup g) = g) ∧
    (bad.toNat = 0 ∨ 8 < bad.toNat →
      Answers (.readSetting tag [bad, idx]) s 0x50 tag s.heard .badArgument (.offset 0)) ∧
    (bad.toNat = 0 ∨ 6 < bad.toNat →
      Answers (.writeSetting tag (3 :: bad :: encodeGroup g)) s 0x51 tag s.heard .badArgument (.offset 1))) ∧
  (∀ (record : List Byte) (tag : Byte) (s : State), s.ready → s.sst.activity = .idle → record.length = 15 →
    1 ≤ field record 0 1 → field record 0 1 ≤ 8 →
    (∃ j, j < field record 0 1 ∧
      (16 < field record (1 + j) 1 ∨ ∃ i, i < j ∧ field record (1 + i) 1 = field record (1 + j) 1)) →
    Answers (.writeSetting tag (8 :: 0 :: record)) s 0x51 tag s.heard .badSetting (.offset 1)) ∧
  (∀ (k : Fin 6) (t : Fin 16) (record : List Byte) (tag : Byte) (s : State), s.ready → s.sst.activity = .idle →
    (record.length = 3 → s.cfg.badOffset record (.sectionRec k) = none →
      s.feeder[k].state ≠ .open → s.feeder[k].state ≠ .blocked → s.feeder[k].state ≠ .lockedOut →
      Answers (.writeSetting tag (5 :: BitVec.ofNat 8 (k.val + 1) :: record)) s 0x51 tag s.heard .refusedState
        (.feederNamed k s.feeder[k].state)) ∧
    (record.length = 5 → s.cfg.badOffset record (.terminal t) = none → s.sts.mode ≠ .standby →
      Answers (.writeSetting tag (7 :: BitVec.ofNat 8 (t.val + 1) :: record)) s 0x51 tag s.heard .refusedState
        (.mode s.sts.mode))) ∧
  (∀ (record : List Byte) (tag : Byte) (s : State), s.ready → s.sst.activity = .idle →
    let write (kind : Byte) (idx : Nat) : Instr := .writeSetting tag (kind :: BitVec.ofNat 8 idx :: record)
    let sst (c : Settings) : Sst := { s.sst with live := c, confirm := s.sst.confirm || s.sst.lost }
    let writable (k : Fin 6) : Prop :=
      s.feeder[k].state = .open ∨ s.feeder[k].state = .blocked ∨ s.feeder[k].state = .lockedOut
    let cleared (c : Section) : Section :=
      { c with summary := .unknown, porigin := .none, itTelegram := false, double := false }
    (record.length = 28 → s.cfg.badOffset record .station = none →
      let c := parseStation record
      ∃ t, Answers (write 1 0) s 0x51 tag t .ok (.setting 1 0 (encodeStation c)) ∧
        (∀ g : Fin 2, t.group[g] =
          if s.group[g].state.fires = true then { s.group[g] with alpha := max s.group[g].alpha c.alphaMin }
          else s.group[g]) ∧
        t = { s.heard with
          sst := sst { s.cfg with station := c }, group := t.group
          sts := { s.heard.sts with supTimer := if c.hostSupervision = 0 then none else s.heard.sts.supTimer } }) ∧
    (∀ k : Fin 6, record.length = 22 → s.cfg.badOffset record (.general k) = none →
      Answers (write 2 (k.val + 1)) s 0x51 tag
        { s.heard with sst := sst { s.cfg with general := s.cfg.general.set k (parseGeneral record) } } .ok
        (.setting 2 (BitVec.ofNat 8 (k.val + 1)) (encodeGeneral (parseGeneral record)))) ∧
    (∀ k : Fin 6, record.length = 13 → s.cfg.badOffset record (.groupB k) = none →
      Answers (write 4 (k.val + 1)) s 0x51 tag
        { s.heard with sst := sst { s.cfg with groupB := s.cfg.groupB.set k (parseGroup record) } } .ok
        (.setting 4 (BitVec.ofNat 8 (k.val + 1)) (encodeGroup (parseGroup record)))) ∧
    (∀ k : Fin 6, record.length = 3 → s.cfg.badOffset record (.sectionRec k) = none → writable k →
      let c := parseSection record
      Answers (write 5 (k.val + 1)) s 0x51 tag
        { s.heard with
          sst := sst { s.cfg with sections := s.cfg.sections.set k c }, sec := s.sec.set k (cleared s.sec[k])
          events := if s.sec[k].double = true then
            pushEvent s.events (s.event .sco (k.val + 1) .groupChange (BitVec.ofNat 16 (k.val + 1)) 1 .none)
            else s.events } .ok
        (.setting 5 (BitVec.ofNat 8 (k.val + 1)) (encodeSection c))) ∧
    (∀ j : Fin 4, record.length = 4 → s.cfg.badOffset record (.partner j) = none →
      (∀ k : Fin 6, s.cfg.sections[k].partner = some j → writable k) →
      let old := s.cfg.partners[j]
      let c := parsePartner record
      ∃ t, Answers (write 6 (j.val + 1)) s 0x51 tag t .ok
          (.setting 6 (BitVec.ofNat 8 (j.val + 1)) (encodePartner c)) ∧
        t.link = s.link.set j { s.link[j] with
          up := false, upCount := 0, lastSeq := none, nextSeq := 0, timeout := none, mode := none, groups := 0
          lastAccepted := none, held := none } ∧
        t.port old.port = { s.port old.port with
          queue := (s.port old.port).queue.filter fun x =>
            !(x.own && x.telegram.dest == BitVec.ofNat 8 old.address) } ∧
        t.port (otherPort old.port) = s.port (otherPort old.port) ∧
        (∀ k : Fin 6, t.sec[k] =
          if s.cfg.sections[k].partner = some j then cleared s.sec[k] else s.sec[k]) ∧
        EventsGrow
          (if s.link[j].up = true then
            pushEvent s.events
              (s.event .nlc (11 + j.val) .linkState 4 (BitVec.ofNat 16 (linkCauseCode .reconfigured)) .none)
            else s.events) t.events ∧
        t = { s.heard with
          sst := sst { s.cfg with partners := s.cfg.partners.set j c }, link := t.link, upPort := t.upPort
          dnPort := t.dnPort, sec := t.sec, events := t.events }) ∧
    (∀ i : Fin 16, record.length = 5 → s.cfg.badOffset record (.terminal i) = none → s.sts.mode = .standby →
      let c := parseTerminal record
      let level := c.mode.sampled (s.lines.getLsbD i.val)
      let output (c : TermCfg) : Prop := (c.mode = .outOpenDrain ∨ c.mode = .outPushPull) ∧ c.fn = .none
      ∃ t, Answers (write 7 (i.val + 1)) s 0x51 tag t .ok
          (.setting 7 (BitVec.ofNat 8 (i.val + 1)) (encodeTerminal c)) ∧
        t.sst = sst { s.cfg with terminals := s.cfg.terminals.set i c } ∧
        (∀ h : Fin 16, h ≠ i → t.term[h] = s.term[h]) ∧ t.term[i].cfg = c ∧ t.term[i].change = false ∧
        t.term[i].count = 0 ∧
        (c.mode.isInput = true → t.term[i].raw = s.lines.getLsbD i.val ∧ t.term[i].proc = level ∧
          (∀ g, c.fn = .tempTrip g → t.group[g].temp = level) ∧ (∀ k, c.fn = .itIn k → t.sec[k].itTerminal = level)) ∧
        (output s.term[i].cfg → output c → t.term[i].out = s.term[i].out) ∧
        (¬ output s.term[i].cfg ∨ ¬ output c → t.term[i].out = false) ∧
        (∀ g, s.term[i].cfg.fn = .tempTrip g → c.fn ≠ .tempTrip g → t.group[g].temp = false) ∧
        (∀ k, s.term[i].cfg.fn = .itIn k → c.fn ≠ .itIn k → t.sec[k].itTerminal = false) ∧
        (s.term[i].cfg.fn = .rplOut → c.fn ≠ .rplOut →
          t.sts.contact = .released ∧ t.sts.hold = none ∧ t.sts.railHistory = []) ∧
        t.aqu = s.aqu ∧ t.sync = s.sync ∧ t.link = s.link ∧ t.upPort = s.upPort ∧ t.dnPort = s.dnPort ∧
        t.bfb = s.bfb ∧ t.lines = s.lines ∧ t.uset = s.uset ∧ t.energy = s.energy ∧ t.avg = s.avg ∧
        EventsGrow s.events t.events) ∧
    (record.length = 15 → s.cfg.badOffset record .capture = none →
      let c := parseCapture record
      Answers (write 8 0) s 0x51 tag { s.heard with sst := sst { s.cfg with capture := c } } .ok
        (.setting 8 0 (encodeCapture c)) ∧
      c.post = min (field record 11 2) (4096 - field record 9 2)))
end

