-- ==== Sys2Proof/Laws/State.lean ====
section
/-! SUPPORT. What each record update of State leaves and sets, field by field, so that no proof unfolds an update. -/
namespace Sys2Proof.Machine

open Sys2Proof

-- ===================================================================== setFeeder

@[simp] theorem State.setFeeder_pending (k : Fin 6) (f : Feeder) (s : State) : (s.setFeeder k f).pending = s.pending := rfl
@[simp] theorem State.setFeeder_straps (k : Fin 6) (f : Feeder) (s : State) : (s.setFeeder k f).straps = s.straps := rfl
@[simp] theorem State.setFeeder_lines (k : Fin 6) (f : Feeder) (s : State) : (s.setFeeder k f).lines = s.lines := rfl
@[simp] theorem State.setFeeder_elapsed (k : Fin 6) (f : Feeder) (s : State) : (s.setFeeder k f).elapsed = s.elapsed := rfl
@[simp] theorem State.setFeeder_stationTime (k : Fin 6) (f : Feeder) (s : State) : (s.setFeeder k f).stationTime = s.stationTime := rfl
@[simp] theorem State.setFeeder_subUs (k : Fin 6) (f : Feeder) (s : State) : (s.setFeeder k f).subUs = s.subUs := rfl
@[simp] theorem State.setFeeder_unset (k : Fin 6) (f : Feeder) (s : State) : (s.setFeeder k f).unset = s.unset := rfl
@[simp] theorem State.setFeeder_aqu (k : Fin 6) (f : Feeder) (s : State) : (s.setFeeder k f).aqu = s.aqu := rfl
@[simp] theorem State.setFeeder_disc (k : Fin 6) (f : Feeder) (s : State) : (s.setFeeder k f).disc = s.disc := rfl
@[simp] theorem State.setFeeder_sec (k : Fin 6) (f : Feeder) (s : State) : (s.setFeeder k f).sec = s.sec := rfl
@[simp] theorem State.setFeeder_link (k : Fin 6) (f : Feeder) (s : State) : (s.setFeeder k f).link = s.link := rfl
@[simp] theorem State.setFeeder_upPort (k : Fin 6) (f : Feeder) (s : State) : (s.setFeeder k f).upPort = s.upPort := rfl
@[simp] theorem State.setFeeder_dnPort (k : Fin 6) (f : Feeder) (s : State) : (s.setFeeder k f).dnPort = s.dnPort := rfl
@[simp] theorem State.setFeeder_group (k : Fin 6) (f : Feeder) (s : State) : (s.setFeeder k f).group = s.group := rfl
@[simp] theorem State.setFeeder_sync (k : Fin 6) (f : Feeder) (s : State) : (s.setFeeder k f).sync = s.sync := rfl
@[simp] theorem State.setFeeder_uset (k : Fin 6) (f : Feeder) (s : State) : (s.setFeeder k f).uset = s.uset := rfl
@[simp] theorem State.setFeeder_sts (k : Fin 6) (f : Feeder) (s : State) : (s.setFeeder k f).sts = s.sts := rfl
@[simp] theorem State.setFeeder_bfb (k : Fin 6) (f : Feeder) (s : State) : (s.setFeeder k f).bfb = s.bfb := rfl
@[simp] theorem State.setFeeder_term (k : Fin 6) (f : Feeder) (s : State) : (s.setFeeder k f).term = s.term := rfl
@[simp] theorem State.setFeeder_events (k : Fin 6) (f : Feeder) (s : State) : (s.setFeeder k f).events = s.events := rfl
@[simp] theorem State.setFeeder_avg (k : Fin 6) (f : Feeder) (s : State) : (s.setFeeder k f).avg = s.avg := rfl
@[simp] theorem State.setFeeder_energy (k : Fin 6) (f : Feeder) (s : State) : (s.setFeeder k f).energy = s.energy := rfl
@[simp] theorem State.setFeeder_cap (k : Fin 6) (f : Feeder) (s : State) : (s.setFeeder k f).cap = s.cap := rfl
@[simp] theorem State.setFeeder_cmp (k : Fin 6) (f : Feeder) (s : State) : (s.setFeeder k f).cmp = s.cmp := rfl
@[simp] theorem State.setFeeder_sst (k : Fin 6) (f : Feeder) (s : State) : (s.setFeeder k f).sst = s.sst := rfl

-- ===================================================================== setDisc

@[simp] theorem State.setDisc_pending (k : Fin 6) (d : Disc) (s : State) : (s.setDisc k d).pending = s.pending := rfl
@[simp] theorem State.setDisc_straps (k : Fin 6) (d : Disc) (s : State) : (s.setDisc k d).straps = s.straps := rfl
@[simp] theorem State.setDisc_lines (k : Fin 6) (d : Disc) (s : State) : (s.setDisc k d).lines = s.lines := rfl
@[simp] theorem State.setDisc_elapsed (k : Fin 6) (d : Disc) (s : State) : (s.setDisc k d).elapsed = s.elapsed := rfl
@[simp] theorem State.setDisc_stationTime (k : Fin 6) (d : Disc) (s : State) : (s.setDisc k d).stationTime = s.stationTime := rfl
@[simp] theorem State.setDisc_subUs (k : Fin 6) (d : Disc) (s : State) : (s.setDisc k d).subUs = s.subUs := rfl
@[simp] theorem State.setDisc_unset (k : Fin 6) (d : Disc) (s : State) : (s.setDisc k d).unset = s.unset := rfl
@[simp] theorem State.setDisc_aqu (k : Fin 6) (d : Disc) (s : State) : (s.setDisc k d).aqu = s.aqu := rfl
@[simp] theorem State.setDisc_feeder (k : Fin 6) (d : Disc) (s : State) : (s.setDisc k d).feeder = s.feeder := rfl
@[simp] theorem State.setDisc_sec (k : Fin 6) (d : Disc) (s : State) : (s.setDisc k d).sec = s.sec := rfl
@[simp] theorem State.setDisc_link (k : Fin 6) (d : Disc) (s : State) : (s.setDisc k d).link = s.link := rfl
@[simp] theorem State.setDisc_upPort (k : Fin 6) (d : Disc) (s : State) : (s.setDisc k d).upPort = s.upPort := rfl
@[simp] theorem State.setDisc_dnPort (k : Fin 6) (d : Disc) (s : State) : (s.setDisc k d).dnPort = s.dnPort := rfl
@[simp] theorem State.setDisc_group (k : Fin 6) (d : Disc) (s : State) : (s.setDisc k d).group = s.group := rfl
@[simp] theorem State.setDisc_sync (k : Fin 6) (d : Disc) (s : State) : (s.setDisc k d).sync = s.sync := rfl
@[simp] theorem State.setDisc_uset (k : Fin 6) (d : Disc) (s : State) : (s.setDisc k d).uset = s.uset := rfl
@[simp] theorem State.setDisc_sts (k : Fin 6) (d : Disc) (s : State) : (s.setDisc k d).sts = s.sts := rfl
@[simp] theorem State.setDisc_bfb (k : Fin 6) (d : Disc) (s : State) : (s.setDisc k d).bfb = s.bfb := rfl
@[simp] theorem State.setDisc_term (k : Fin 6) (d : Disc) (s : State) : (s.setDisc k d).term = s.term := rfl
@[simp] theorem State.setDisc_events (k : Fin 6) (d : Disc) (s : State) : (s.setDisc k d).events = s.events := rfl
@[simp] theorem State.setDisc_avg (k : Fin 6) (d : Disc) (s : State) : (s.setDisc k d).avg = s.avg := rfl
@[simp] theorem State.setDisc_energy (k : Fin 6) (d : Disc) (s : State) : (s.setDisc k d).energy = s.energy := rfl
@[simp] theorem State.setDisc_cap (k : Fin 6) (d : Disc) (s : State) : (s.setDisc k d).cap = s.cap := rfl
@[simp] theorem State.setDisc_cmp (k : Fin 6) (d : Disc) (s : State) : (s.setDisc k d).cmp = s.cmp := rfl
@[simp] theorem State.setDisc_sst (k : Fin 6) (d : Disc) (s : State) : (s.setDisc k d).sst = s.sst := rfl

-- ===================================================================== setSec

@[simp] theorem State.setSec_pending (k : Fin 6) (c : Section) (s : State) : (s.setSec k c).pending = s.pending := rfl
@[simp] theorem State.setSec_straps (k : Fin 6) (c : Section) (s : State) : (s.setSec k c).straps = s.straps := rfl
@[simp] theorem State.setSec_lines (k : Fin 6) (c : Section) (s : State) : (s.setSec k c).lines = s.lines := rfl
@[simp] theorem State.setSec_elapsed (k : Fin 6) (c : Section) (s : State) : (s.setSec k c).elapsed = s.elapsed := rfl
@[simp] theorem State.setSec_stationTime (k : Fin 6) (c : Section) (s : State) : (s.setSec k c).stationTime = s.stationTime := rfl
@[simp] theorem State.setSec_subUs (k : Fin 6) (c : Section) (s : State) : (s.setSec k c).subUs = s.subUs := rfl
@[simp] theorem State.setSec_unset (k : Fin 6) (c : Section) (s : State) : (s.setSec k c).unset = s.unset := rfl
@[simp] theorem State.setSec_aqu (k : Fin 6) (c : Section) (s : State) : (s.setSec k c).aqu = s.aqu := rfl
@[simp] theorem State.setSec_disc (k : Fin 6) (c : Section) (s : State) : (s.setSec k c).disc = s.disc := rfl
@[simp] theorem State.setSec_feeder (k : Fin 6) (c : Section) (s : State) : (s.setSec k c).feeder = s.feeder := rfl
@[simp] theorem State.setSec_link (k : Fin 6) (c : Section) (s : State) : (s.setSec k c).link = s.link := rfl
@[simp] theorem State.setSec_upPort (k : Fin 6) (c : Section) (s : State) : (s.setSec k c).upPort = s.upPort := rfl
@[simp] theorem State.setSec_dnPort (k : Fin 6) (c : Section) (s : State) : (s.setSec k c).dnPort = s.dnPort := rfl
@[simp] theorem State.setSec_group (k : Fin 6) (c : Section) (s : State) : (s.setSec k c).group = s.group := rfl
@[simp] theorem State.setSec_sync (k : Fin 6) (c : Section) (s : State) : (s.setSec k c).sync = s.sync := rfl
@[simp] theorem State.setSec_uset (k : Fin 6) (c : Section) (s : State) : (s.setSec k c).uset = s.uset := rfl
@[simp] theorem State.setSec_sts (k : Fin 6) (c : Section) (s : State) : (s.setSec k c).sts = s.sts := rfl
@[simp] theorem State.setSec_bfb (k : Fin 6) (c : Section) (s : State) : (s.setSec k c).bfb = s.bfb := rfl
@[simp] theorem State.setSec_term (k : Fin 6) (c : Section) (s : State) : (s.setSec k c).term = s.term := rfl
@[simp] theorem State.setSec_events (k : Fin 6) (c : Section) (s : State) : (s.setSec k c).events = s.events := rfl
@[simp] theorem State.setSec_avg (k : Fin 6) (c : Section) (s : State) : (s.setSec k c).avg = s.avg := rfl
@[simp] theorem State.setSec_energy (k : Fin 6) (c : Section) (s : State) : (s.setSec k c).energy = s.energy := rfl
@[simp] theorem State.setSec_cap (k : Fin 6) (c : Section) (s : State) : (s.setSec k c).cap = s.cap := rfl
@[simp] theorem State.setSec_cmp (k : Fin 6) (c : Section) (s : State) : (s.setSec k c).cmp = s.cmp := rfl
@[simp] theorem State.setSec_sst (k : Fin 6) (c : Section) (s : State) : (s.setSec k c).sst = s.sst := rfl

-- ===================================================================== setLink

@[simp] theorem State.setLink_pending (j : Fin 4) (l : LinkRec) (s : State) : (s.setLink j l).pending = s.pending := rfl
@[simp] theorem State.setLink_straps (j : Fin 4) (l : LinkRec) (s : State) : (s.setLink j l).straps = s.straps := rfl
@[simp] theorem State.setLink_lines (j : Fin 4) (l : LinkRec) (s : State) : (s.setLink j l).lines = s.lines := rfl
@[simp] theorem State.setLink_elapsed (j : Fin 4) (l : LinkRec) (s : State) : (s.setLink j l).elapsed = s.elapsed := rfl
@[simp] theorem State.setLink_stationTime (j : Fin 4) (l : LinkRec) (s : State) : (s.setLink j l).stationTime = s.stationTime := rfl
@[simp] theorem State.setLink_subUs (j : Fin 4) (l : LinkRec) (s : State) : (s.setLink j l).subUs = s.subUs := rfl
@[simp] theorem State.setLink_unset (j : Fin 4) (l : LinkRec) (s : State) : (s.setLink j l).unset = s.unset := rfl
@[simp] theorem State.setLink_aqu (j : Fin 4) (l : LinkRec) (s : State) : (s.setLink j l).aqu = s.aqu := rfl
@[simp] theorem State.setLink_disc (j : Fin 4) (l : LinkRec) (s : State) : (s.setLink j l).disc = s.disc := rfl
@[simp] theorem State.setLink_feeder (j : Fin 4) (l : LinkRec) (s : State) : (s.setLink j l).feeder = s.feeder := rfl
@[simp] theorem State.setLink_sec (j : Fin 4) (l : LinkRec) (s : State) : (s.setLink j l).sec = s.sec := rfl
@[simp] theorem State.setLink_upPort (j : Fin 4) (l : LinkRec) (s : State) : (s.setLink j l).upPort = s.upPort := rfl
@[simp] theorem State.setLink_dnPort (j : Fin 4) (l : LinkRec) (s : State) : (s.setLink j l).dnPort = s.dnPort := rfl
@[simp] theorem State.setLink_group (j : Fin 4) (l : LinkRec) (s : State) : (s.setLink j l).group = s.group := rfl
@[simp] theorem State.setLink_sync (j : Fin 4) (l : LinkRec) (s : State) : (s.setLink j l).sync = s.sync := rfl
@[simp] theorem State.setLink_uset (j : Fin 4) (l : LinkRec) (s : State) : (s.setLink j l).uset = s.uset := rfl
@[simp] theorem State.setLink_sts (j : Fin 4) (l : LinkRec) (s : State) : (s.setLink j l).sts = s.sts := rfl
@[simp] theorem State.setLink_bfb (j : Fin 4) (l : LinkRec) (s : State) : (s.setLink j l).bfb = s.bfb := rfl
@[simp] theorem State.setLink_term (j : Fin 4) (l : LinkRec) (s : State) : (s.setLink j l).term = s.term := rfl
@[simp] theorem State.setLink_events (j : Fin 4) (l : LinkRec) (s : State) : (s.setLink j l).events = s.events := rfl
@[simp] theorem State.setLink_avg (j : Fin 4) (l : LinkRec) (s : State) : (s.setLink j l).avg = s.avg := rfl
@[simp] theorem State.setLink_energy (j : Fin 4) (l : LinkRec) (s : State) : (s.setLink j l).energy = s.energy := rfl
@[simp] theorem State.setLink_cap (j : Fin 4) (l : LinkRec) (s : State) : (s.setLink j l).cap = s.cap := rfl
@[simp] theorem State.setLink_cmp (j : Fin 4) (l : LinkRec) (s : State) : (s.setLink j l).cmp = s.cmp := rfl
@[simp] theorem State.setLink_sst (j : Fin 4) (l : LinkRec) (s : State) : (s.setLink j l).sst = s.sst := rfl

-- ===================================================================== setGroupRec

@[simp] theorem State.setGroupRec_pending (g : Fin 2) (r : GroupRec) (s : State) : (s.setGroupRec g r).pending = s.pending := rfl
@[simp] theorem State.setGroupRec_straps (g : Fin 2) (r : GroupRec) (s : State) : (s.setGroupRec g r).straps = s.straps := rfl
@[simp] theorem State.setGroupRec_lines (g : Fin 2) (r : GroupRec) (s : State) : (s.setGroupRec g r).lines = s.lines := rfl
@[simp] theorem State.setGroupRec_elapsed (g : Fin 2) (r : GroupRec) (s : State) : (s.setGroupRec g r).elapsed = s.elapsed := rfl
@[simp] theorem State.setGroupRec_stationTime (g : Fin 2) (r : GroupRec) (s : State) : (s.setGroupRec g r).stationTime = s.stationTime := rfl
@[simp] theorem State.setGroupRec_subUs (g : Fin 2) (r : GroupRec) (s : State) : (s.setGroupRec g r).subUs = s.subUs := rfl
@[simp] theorem State.setGroupRec_unset (g : Fin 2) (r : GroupRec) (s : State) : (s.setGroupRec g r).unset = s.unset := rfl
@[simp] theorem State.setGroupRec_aqu (g : Fin 2) (r : GroupRec) (s : State) : (s.setGroupRec g r).aqu = s.aqu := rfl
@[simp] theorem State.setGroupRec_disc (g : Fin 2) (r : GroupRec) (s : State) : (s.setGroupRec g r).disc = s.disc := rfl
@[simp] theorem State.setGroupRec_feeder (g : Fin 2) (r : GroupRec) (s : State) : (s.setGroupRec g r).feeder = s.feeder := rfl
@[simp] theorem State.setGroupRec_sec (g : Fin 2) (r : GroupRec) (s : State) : (s.setGroupRec g r).sec = s.sec := rfl
@[simp] theorem State.setGroupRec_link (g : Fin 2) (r : GroupRec) (s : State) : (s.setGroupRec g r).link = s.link := rfl
@[simp] theorem State.setGroupRec_upPort (g : Fin 2) (r : GroupRec) (s : State) : (s.setGroupRec g r).upPort = s.upPort := rfl
@[simp] theorem State.setGroupRec_dnPort (g : Fin 2) (r : GroupRec) (s : State) : (s.setGroupRec g r).dnPort = s.dnPort := rfl
@[simp] theorem State.setGroupRec_sync (g : Fin 2) (r : GroupRec) (s : State) : (s.setGroupRec g r).sync = s.sync := rfl
@[simp] theorem State.setGroupRec_uset (g : Fin 2) (r : GroupRec) (s : State) : (s.setGroupRec g r).uset = s.uset := rfl
@[simp] theorem State.setGroupRec_sts (g : Fin 2) (r : GroupRec) (s : State) : (s.setGroupRec g r).sts = s.sts := rfl
@[simp] theorem State.setGroupRec_bfb (g : Fin 2) (r : GroupRec) (s : State) : (s.setGroupRec g r).bfb = s.bfb := rfl
@[simp] theorem State.setGroupRec_term (g : Fin 2) (r : GroupRec) (s : State) : (s.setGroupRec g r).term = s.term := rfl
@[simp] theorem State.setGroupRec_events (g : Fin 2) (r : GroupRec) (s : State) : (s.setGroupRec g r).events = s.events := rfl
@[simp] theorem State.setGroupRec_avg (g : Fin 2) (r : GroupRec) (s : State) : (s.setGroupRec g r).avg = s.avg := rfl
@[simp] theorem State.setGroupRec_energy (g : Fin 2) (r : GroupRec) (s : State) : (s.setGroupRec g r).energy = s.energy := rfl
@[simp] theorem State.setGroupRec_cap (g : Fin 2) (r : GroupRec) (s : State) : (s.setGroupRec g r).cap = s.cap := rfl
@[simp] theorem State.setGroupRec_cmp (g : Fin 2) (r : GroupRec) (s : State) : (s.setGroupRec g r).cmp = s.cmp := rfl
@[simp] theorem State.setGroupRec_sst (g : Fin 2) (r : GroupRec) (s : State) : (s.setGroupRec g r).sst = s.sst := rfl

-- ===================================================================== setSyncRec

@[simp] theorem State.setSyncRec_pending (g : Fin 2) (r : SyncRec) (s : State) : (s.setSyncRec g r).pending = s.pending := rfl
@[simp] theorem State.setSyncRec_straps (g : Fin 2) (r : SyncRec) (s : State) : (s.setSyncRec g r).straps = s.straps := rfl
@[simp] theorem State.setSyncRec_lines (g : Fin 2) (r : SyncRec) (s : State) : (s.setSyncRec g r).lines = s.lines := rfl
@[simp] theorem State.setSyncRec_elapsed (g : Fin 2) (r : SyncRec) (s : State) : (s.setSyncRec g r).elapsed = s.elapsed := rfl
@[simp] theorem State.setSyncRec_stationTime (g : Fin 2) (r : SyncRec) (s : State) : (s.setSyncRec g r).stationTime = s.stationTime := rfl
@[simp] theorem State.setSyncRec_subUs (g : Fin 2) (r : SyncRec) (s : State) : (s.setSyncRec g r).subUs = s.subUs := rfl
@[simp] theorem State.setSyncRec_unset (g : Fin 2) (r : SyncRec) (s : State) : (s.setSyncRec g r).unset = s.unset := rfl
@[simp] theorem State.setSyncRec_aqu (g : Fin 2) (r : SyncRec) (s : State) : (s.setSyncRec g r).aqu = s.aqu := rfl
@[simp] theorem State.setSyncRec_disc (g : Fin 2) (r : SyncRec) (s : State) : (s.setSyncRec g r).disc = s.disc := rfl
@[simp] theorem State.setSyncRec_feeder (g : Fin 2) (r : SyncRec) (s : State) : (s.setSyncRec g r).feeder = s.feeder := rfl
@[simp] theorem State.setSyncRec_sec (g : Fin 2) (r : SyncRec) (s : State) : (s.setSyncRec g r).sec = s.sec := rfl
@[simp] theorem State.setSyncRec_link (g : Fin 2) (r : SyncRec) (s : State) : (s.setSyncRec g r).link = s.link := rfl
@[simp] theorem State.setSyncRec_upPort (g : Fin 2) (r : SyncRec) (s : State) : (s.setSyncRec g r).upPort = s.upPort := rfl
@[simp] theorem State.setSyncRec_dnPort (g : Fin 2) (r : SyncRec) (s : State) : (s.setSyncRec g r).dnPort = s.dnPort := rfl
@[simp] theorem State.setSyncRec_group (g : Fin 2) (r : SyncRec) (s : State) : (s.setSyncRec g r).group = s.group := rfl
@[simp] theorem State.setSyncRec_uset (g : Fin 2) (r : SyncRec) (s : State) : (s.setSyncRec g r).uset = s.uset := rfl
@[simp] theorem State.setSyncRec_sts (g : Fin 2) (r : SyncRec) (s : State) : (s.setSyncRec g r).sts = s.sts := rfl
@[simp] theorem State.setSyncRec_bfb (g : Fin 2) (r : SyncRec) (s : State) : (s.setSyncRec g r).bfb = s.bfb := rfl
@[simp] theorem State.setSyncRec_term (g : Fin 2) (r : SyncRec) (s : State) : (s.setSyncRec g r).term = s.term := rfl
@[simp] theorem State.setSyncRec_events (g : Fin 2) (r : SyncRec) (s : State) : (s.setSyncRec g r).events = s.events := rfl
@[simp] theorem State.setSyncRec_avg (g : Fin 2) (r : SyncRec) (s : State) : (s.setSyncRec g r).avg = s.avg := rfl
@[simp] theorem State.setSyncRec_energy (g : Fin 2) (r : SyncRec) (s : State) : (s.setSyncRec g r).energy = s.energy := rfl
@[simp] theorem State.setSyncRec_cap (g : Fin 2) (r : SyncRec) (s : State) : (s.setSyncRec g r).cap = s.cap := rfl
@[simp] theorem State.setSyncRec_cmp (g : Fin 2) (r : SyncRec) (s : State) : (s.setSyncRec g r).cmp = s.cmp := rfl
@[simp] theorem State.setSyncRec_sst (g : Fin 2) (r : SyncRec) (s : State) : (s.setSyncRec g r).sst = s.sst := rfl

-- ===================================================================== setTerm

@[simp] theorem State.setTerm_pending (t : Fin 16) (r : Terminal) (s : State) : (s.setTerm t r).pending = s.pending := rfl
@[simp] theorem State.setTerm_straps (t : Fin 16) (r : Terminal) (s : State) : (s.setTerm t r).straps = s.straps := rfl
@[simp] theorem State.setTerm_lines (t : Fin 16) (r : Terminal) (s : State) : (s.setTerm t r).lines = s.lines := rfl
@[simp] theorem State.setTerm_elapsed (t : Fin 16) (r : Terminal) (s : State) : (s.setTerm t r).elapsed = s.elapsed := rfl
@[simp] theorem State.setTerm_stationTime (t : Fin 16) (r : Terminal) (s : State) : (s.setTerm t r).stationTime = s.stationTime := rfl
@[simp] theorem State.setTerm_subUs (t : Fin 16) (r : Terminal) (s : State) : (s.setTerm t r).subUs = s.subUs := rfl
@[simp] theorem State.setTerm_unset (t : Fin 16) (r : Terminal) (s : State) : (s.setTerm t r).unset = s.unset := rfl
@[simp] theorem State.setTerm_aqu (t : Fin 16) (r : Terminal) (s : State) : (s.setTerm t r).aqu = s.aqu := rfl
@[simp] theorem State.setTerm_disc (t : Fin 16) (r : Terminal) (s : State) : (s.setTerm t r).disc = s.disc := rfl
@[simp] theorem State.setTerm_feeder (t : Fin 16) (r : Terminal) (s : State) : (s.setTerm t r).feeder = s.feeder := rfl
@[simp] theorem State.setTerm_sec (t : Fin 16) (r : Terminal) (s : State) : (s.setTerm t r).sec = s.sec := rfl
@[simp] theorem State.setTerm_link (t : Fin 16) (r : Terminal) (s : State) : (s.setTerm t r).link = s.link := rfl
@[simp] theorem State.setTerm_upPort (t : Fin 16) (r : Terminal) (s : State) : (s.setTerm t r).upPort = s.upPort := rfl
@[simp] theorem State.setTerm_dnPort (t : Fin 16) (r : Terminal) (s : State) : (s.setTerm t r).dnPort = s.dnPort := rfl
@[simp] theorem State.setTerm_group (t : Fin 16) (r : Terminal) (s : State) : (s.setTerm t r).group = s.group := rfl
@[simp] theorem State.setTerm_sync (t : Fin 16) (r : Terminal) (s : State) : (s.setTerm t r).sync = s.sync := rfl
@[simp] theorem State.setTerm_uset (t : Fin 16) (r : Terminal) (s : State) : (s.setTerm t r).uset = s.uset := rfl
@[simp] theorem State.setTerm_sts (t : Fin 16) (r : Terminal) (s : State) : (s.setTerm t r).sts = s.sts := rfl
@[simp] theorem State.setTerm_bfb (t : Fin 16) (r : Terminal) (s : State) : (s.setTerm t r).bfb = s.bfb := rfl
@[simp] theorem State.setTerm_events (t : Fin 16) (r : Terminal) (s : State) : (s.setTerm t r).events = s.events := rfl
@[simp] theorem State.setTerm_avg (t : Fin 16) (r : Terminal) (s : State) : (s.setTerm t r).avg = s.avg := rfl
@[simp] theorem State.setTerm_energy (t : Fin 16) (r : Terminal) (s : State) : (s.setTerm t r).energy = s.energy := rfl
@[simp] theorem State.setTerm_cap (t : Fin 16) (r : Terminal) (s : State) : (s.setTerm t r).cap = s.cap := rfl
@[simp] theorem State.setTerm_cmp (t : Fin 16) (r : Terminal) (s : State) : (s.setTerm t r).cmp = s.cmp := rfl
@[simp] theorem State.setTerm_sst (t : Fin 16) (r : Terminal) (s : State) : (s.setTerm t r).sst = s.sst := rfl

-- ===================================================================== setBfb

@[simp] theorem State.setBfb_pending (k : Fin 6) (b : Bfb) (s : State) : (s.setBfb k b).pending = s.pending := rfl
@[simp] theorem State.setBfb_straps (k : Fin 6) (b : Bfb) (s : State) : (s.setBfb k b).straps = s.straps := rfl
@[simp] theorem State.setBfb_lines (k : Fin 6) (b : Bfb) (s : State) : (s.setBfb k b).lines = s.lines := rfl
@[simp] theorem State.setBfb_elapsed (k : Fin 6) (b : Bfb) (s : State) : (s.setBfb k b).elapsed = s.elapsed := rfl
@[simp] theorem State.setBfb_stationTime (k : Fin 6) (b : Bfb) (s : State) : (s.setBfb k b).stationTime = s.stationTime := rfl
@[simp] theorem State.setBfb_subUs (k : Fin 6) (b : Bfb) (s : State) : (s.setBfb k b).subUs = s.subUs := rfl
@[simp] theorem State.setBfb_unset (k : Fin 6) (b : Bfb) (s : State) : (s.setBfb k b).unset = s.unset := rfl
@[simp] theorem State.setBfb_aqu (k : Fin 6) (b : Bfb) (s : State) : (s.setBfb k b).aqu = s.aqu := rfl
@[simp] theorem State.setBfb_disc (k : Fin 6) (b : Bfb) (s : State) : (s.setBfb k b).disc = s.disc := rfl
@[simp] theorem State.setBfb_feeder (k : Fin 6) (b : Bfb) (s : State) : (s.setBfb k b).feeder = s.feeder := rfl
@[simp] theorem State.setBfb_sec (k : Fin 6) (b : Bfb) (s : State) : (s.setBfb k b).sec = s.sec := rfl
@[simp] theorem State.setBfb_link (k : Fin 6) (b : Bfb) (s : State) : (s.setBfb k b).link = s.link := rfl
@[simp] theorem State.setBfb_upPort (k : Fin 6) (b : Bfb) (s : State) : (s.setBfb k b).upPort = s.upPort := rfl
@[simp] theorem State.setBfb_dnPort (k : Fin 6) (b : Bfb) (s : State) : (s.setBfb k b).dnPort = s.dnPort := rfl
@[simp] theorem State.setBfb_group (k : Fin 6) (b : Bfb) (s : State) : (s.setBfb k b).group = s.group := rfl
@[simp] theorem State.setBfb_sync (k : Fin 6) (b : Bfb) (s : State) : (s.setBfb k b).sync = s.sync := rfl
@[simp] theorem State.setBfb_uset (k : Fin 6) (b : Bfb) (s : State) : (s.setBfb k b).uset = s.uset := rfl
@[simp] theorem State.setBfb_sts (k : Fin 6) (b : Bfb) (s : State) : (s.setBfb k b).sts = s.sts := rfl
@[simp] theorem State.setBfb_term (k : Fin 6) (b : Bfb) (s : State) : (s.setBfb k b).term = s.term := rfl
@[simp] theorem State.setBfb_events (k : Fin 6) (b : Bfb) (s : State) : (s.setBfb k b).events = s.events := rfl
@[simp] theorem State.setBfb_avg (k : Fin 6) (b : Bfb) (s : State) : (s.setBfb k b).avg = s.avg := rfl
@[simp] theorem State.setBfb_energy (k : Fin 6) (b : Bfb) (s : State) : (s.setBfb k b).energy = s.energy := rfl
@[simp] theorem State.setBfb_cap (k : Fin 6) (b : Bfb) (s : State) : (s.setBfb k b).cap = s.cap := rfl
@[simp] theorem State.setBfb_cmp (k : Fin 6) (b : Bfb) (s : State) : (s.setBfb k b).cmp = s.cmp := rfl
@[simp] theorem State.setBfb_sst (k : Fin 6) (b : Bfb) (s : State) : (s.setBfb k b).sst = s.sst := rfl

-- ===================================================================== setSts

@[simp] theorem State.setSts_pending (c : Sts) (s : State) : (s.setSts c).pending = s.pending := rfl
@[simp] theorem State.setSts_straps (c : Sts) (s : State) : (s.setSts c).straps = s.straps := rfl
@[simp] theorem State.setSts_lines (c : Sts) (s : State) : (s.setSts c).lines = s.lines := rfl
@[simp] theorem State.setSts_elapsed (c : Sts) (s : State) : (s.setSts c).elapsed = s.elapsed := rfl
@[simp] theorem State.setSts_stationTime (c : Sts) (s : State) : (s.setSts c).stationTime = s.stationTime := rfl
@[simp] theorem State.setSts_subUs (c : Sts) (s : State) : (s.setSts c).subUs = s.subUs := rfl
@[simp] theorem State.setSts_unset (c : Sts) (s : State) : (s.setSts c).unset = s.unset := rfl
@[simp] theorem State.setSts_aqu (c : Sts) (s : State) : (s.setSts c).aqu = s.aqu := rfl
@[simp] theorem State.setSts_disc (c : Sts) (s : State) : (s.setSts c).disc = s.disc := rfl
@[simp] theorem State.setSts_feeder (c : Sts) (s : State) : (s.setSts c).feeder = s.feeder := rfl
@[simp] theorem State.setSts_sec (c : Sts) (s : State) : (s.setSts c).sec = s.sec := rfl
@[simp] theorem State.setSts_link (c : Sts) (s : State) : (s.setSts c).link = s.link := rfl
@[simp] theorem State.setSts_upPort (c : Sts) (s : State) : (s.setSts c).upPort = s.upPort := rfl
@[simp] theorem State.setSts_dnPort (c : Sts) (s : State) : (s.setSts c).dnPort = s.dnPort := rfl
@[simp] theorem State.setSts_group (c : Sts) (s : State) : (s.setSts c).group = s.group := rfl
@[simp] theorem State.setSts_sync (c : Sts) (s : State) : (s.setSts c).sync = s.sync := rfl
@[simp] theorem State.setSts_uset (c : Sts) (s : State) : (s.setSts c).uset = s.uset := rfl
@[simp] theorem State.setSts_bfb (c : Sts) (s : State) : (s.setSts c).bfb = s.bfb := rfl
@[simp] theorem State.setSts_term (c : Sts) (s : State) : (s.setSts c).term = s.term := rfl
@[simp] theorem State.setSts_events (c : Sts) (s : State) : (s.setSts c).events = s.events := rfl
@[simp] theorem State.setSts_avg (c : Sts) (s : State) : (s.setSts c).avg = s.avg := rfl
@[simp] theorem State.setSts_energy (c : Sts) (s : State) : (s.setSts c).energy = s.energy := rfl
@[simp] theorem State.setSts_cap (c : Sts) (s : State) : (s.setSts c).cap = s.cap := rfl
@[simp] theorem State.setSts_cmp (c : Sts) (s : State) : (s.setSts c).cmp = s.cmp := rfl
@[simp] theorem State.setSts_sst (c : Sts) (s : State) : (s.setSts c).sst = s.sst := rfl

-- ===================================================================== setPort

@[simp] theorem State.setPort_pending (p : Port) (r : PortRec) (s : State) : (s.setPort p r).pending = s.pending := by cases p <;> rfl
@[simp] theorem State.setPort_straps (p : Port) (r : PortRec) (s : State) : (s.setPort p r).straps = s.straps := by cases p <;> rfl
@[simp] theorem State.setPort_lines (p : Port) (r : PortRec) (s : State) : (s.setPort p r).lines = s.lines := by cases p <;> rfl
@[simp] theorem State.setPort_elapsed (p : Port) (r : PortRec) (s : State) : (s.setPort p r).elapsed = s.elapsed := by cases p <;> rfl
@[simp] theorem State.setPort_stationTime (p : Port) (r : PortRec) (s : State) : (s.setPort p r).stationTime = s.stationTime := by cases p <;> rfl
@[simp] theorem State.setPort_subUs (p : Port) (r : PortRec) (s : State) : (s.setPort p r).subUs = s.subUs := by cases p <;> rfl
@[simp] theorem State.setPort_unset (p : Port) (r : PortRec) (s : State) : (s.setPort p r).unset = s.unset := by cases p <;> rfl
@[simp] theorem State.setPort_aqu (p : Port) (r : PortRec) (s : State) : (s.setPort p r).aqu = s.aqu := by cases p <;> rfl
@[simp] theorem State.setPort_disc (p : Port) (r : PortRec) (s : State) : (s.setPort p r).disc = s.disc := by cases p <;> rfl
@[simp] theorem State.setPort_feeder (p : Port) (r : PortRec) (s : State) : (s.setPort p r).feeder = s.feeder := by cases p <;> rfl
@[simp] theorem State.setPort_sec (p : Port) (r : PortRec) (s : State) : (s.setPort p r).sec = s.sec := by cases p <;> rfl
@[simp] theorem State.setPort_link (p : Port) (r : PortRec) (s : State) : (s.setPort p r).link = s.link := by cases p <;> rfl
@[simp] theorem State.setPort_group (p : Port) (r : PortRec) (s : State) : (s.setPort p r).group = s.group := by cases p <;> rfl
@[simp] theorem State.setPort_sync (p : Port) (r : PortRec) (s : State) : (s.setPort p r).sync = s.sync := by cases p <;> rfl
@[simp] theorem State.setPort_uset (p : Port) (r : PortRec) (s : State) : (s.setPort p r).uset = s.uset := by cases p <;> rfl
@[simp] theorem State.setPort_sts (p : Port) (r : PortRec) (s : State) : (s.setPort p r).sts = s.sts := by cases p <;> rfl
@[simp] theorem State.setPort_bfb (p : Port) (r : PortRec) (s : State) : (s.setPort p r).bfb = s.bfb := by cases p <;> rfl
@[simp] theorem State.setPort_term (p : Port) (r : PortRec) (s : State) : (s.setPort p r).term = s.term := by cases p <;> rfl
@[simp] theorem State.setPort_events (p : Port) (r : PortRec) (s : State) : (s.setPort p r).events = s.events := by cases p <;> rfl
@[simp] theorem State.setPort_avg (p : Port) (r : PortRec) (s : State) : (s.setPort p r).avg = s.avg := by cases p <;> rfl
@[simp] theorem State.setPort_energy (p : Port) (r : PortRec) (s : State) : (s.setPort p r).energy = s.energy := by cases p <;> rfl
@[simp] theorem State.setPort_cap (p : Port) (r : PortRec) (s : State) : (s.setPort p r).cap = s.cap := by cases p <;> rfl
@[simp] theorem State.setPort_cmp (p : Port) (r : PortRec) (s : State) : (s.setPort p r).cmp = s.cmp := by cases p <;> rfl
@[simp] theorem State.setPort_sst (p : Port) (r : PortRec) (s : State) : (s.setPort p r).sst = s.sst := by cases p <;> rfl

-- ===================================================================== setChannel

@[simp] theorem State.setChannel_pending (c : Fin 17) (r : Channel) (s : State) : (s.setChannel c r).pending = s.pending := rfl
@[simp] theorem State.setChannel_straps (c : Fin 17) (r : Channel) (s : State) : (s.setChannel c r).straps = s.straps := rfl
@[simp] theorem State.setChannel_lines (c : Fin 17) (r : Channel) (s : State) : (s.setChannel c r).lines = s.lines := rfl
@[simp] theorem State.setChannel_elapsed (c : Fin 17) (r : Channel) (s : State) : (s.setChannel c r).elapsed = s.elapsed := rfl
@[simp] theorem State.setChannel_stationTime (c : Fin 17) (r : Channel) (s : State) : (s.setChannel c r).stationTime = s.stationTime := rfl
@[simp] theorem State.setChannel_subUs (c : Fin 17) (r : Channel) (s : State) : (s.setChannel c r).subUs = s.subUs := rfl
@[simp] theorem State.setChannel_unset (c : Fin 17) (r : Channel) (s : State) : (s.setChannel c r).unset = s.unset := rfl
@[simp] theorem State.setChannel_disc (c : Fin 17) (r : Channel) (s : State) : (s.setChannel c r).disc = s.disc := rfl
@[simp] theorem State.setChannel_feeder (c : Fin 17) (r : Channel) (s : State) : (s.setChannel c r).feeder = s.feeder := rfl
@[simp] theorem State.setChannel_sec (c : Fin 17) (r : Channel) (s : State) : (s.setChannel c r).sec = s.sec := rfl
@[simp] theorem State.setChannel_link (c : Fin 17) (r : Channel) (s : State) : (s.setChannel c r).link = s.link := rfl
@[simp] theorem State.setChannel_upPort (c : Fin 17) (r : Channel) (s : State) : (s.setChannel c r).upPort = s.upPort := rfl
@[simp] theorem State.setChannel_dnPort (c : Fin 17) (r : Channel) (s : State) : (s.setChannel c r).dnPort = s.dnPort := rfl
@[simp] theorem State.setChannel_group (c : Fin 17) (r : Channel) (s : State) : (s.setChannel c r).group = s.group := rfl
@[simp] theorem State.setChannel_sync (c : Fin 17) (r : Channel) (s : State) : (s.setChannel c r).sync = s.sync := rfl
@[simp] theorem State.setChannel_uset (c : Fin 17) (r : Channel) (s : State) : (s.setChannel c r).uset = s.uset := rfl
@[simp] theorem State.setChannel_sts (c : Fin 17) (r : Channel) (s : State) : (s.setChannel c r).sts = s.sts := rfl
@[simp] theorem State.setChannel_bfb (c : Fin 17) (r : Channel) (s : State) : (s.setChannel c r).bfb = s.bfb := rfl
@[simp] theorem State.setChannel_term (c : Fin 17) (r : Channel) (s : State) : (s.setChannel c r).term = s.term := rfl
@[simp] theorem State.setChannel_events (c : Fin 17) (r : Channel) (s : State) : (s.setChannel c r).events = s.events := rfl
@[simp] theorem State.setChannel_avg (c : Fin 17) (r : Channel) (s : State) : (s.setChannel c r).avg = s.avg := rfl
@[simp] theorem State.setChannel_energy (c : Fin 17) (r : Channel) (s : State) : (s.setChannel c r).energy = s.energy := rfl
@[simp] theorem State.setChannel_cap (c : Fin 17) (r : Channel) (s : State) : (s.setChannel c r).cap = s.cap := rfl
@[simp] theorem State.setChannel_cmp (c : Fin 17) (r : Channel) (s : State) : (s.setChannel c r).cmp = s.cmp := rfl
@[simp] theorem State.setChannel_sst (c : Fin 17) (r : Channel) (s : State) : (s.setChannel c r).sst = s.sst := rfl

-- ===================================================================== setLive

@[simp] theorem State.setLive_pending (c : Settings) (s : State) : (s.setLive c).pending = s.pending := rfl
@[simp] theorem State.setLive_straps (c : Settings) (s : State) : (s.setLive c).straps = s.straps := rfl
@[simp] theorem State.setLive_lines (c : Settings) (s : State) : (s.setLive c).lines = s.lines := rfl
@[simp] theorem State.setLive_elapsed (c : Settings) (s : State) : (s.setLive c).elapsed = s.elapsed := rfl
@[simp] theorem State.setLive_stationTime (c : Settings) (s : State) : (s.setLive c).stationTime = s.stationTime := rfl
@[simp] theorem State.setLive_subUs (c : Settings) (s : State) : (s.setLive c).subUs = s.subUs := rfl
@[simp] theorem State.setLive_unset (c : Settings) (s : State) : (s.setLive c).unset = s.unset := rfl
@[simp] theorem State.setLive_aqu (c : Settings) (s : State) : (s.setLive c).aqu = s.aqu := rfl
@[simp] theorem State.setLive_disc (c : Settings) (s : State) : (s.setLive c).disc = s.disc := rfl
@[simp] theorem State.setLive_feeder (c : Settings) (s : State) : (s.setLive c).feeder = s.feeder := rfl
@[simp] theorem State.setLive_sec (c : Settings) (s : State) : (s.setLive c).sec = s.sec := rfl
@[simp] theorem State.setLive_link (c : Settings) (s : State) : (s.setLive c).link = s.link := rfl
@[simp] theorem State.setLive_upPort (c : Settings) (s : State) : (s.setLive c).upPort = s.upPort := rfl
@[simp] theorem State.setLive_dnPort (c : Settings) (s : State) : (s.setLive c).dnPort = s.dnPort := rfl
@[simp] theorem State.setLive_group (c : Settings) (s : State) : (s.setLive c).group = s.group := rfl
@[simp] theorem State.setLive_sync (c : Settings) (s : State) : (s.setLive c).sync = s.sync := rfl
@[simp] theorem State.setLive_uset (c : Settings) (s : State) : (s.setLive c).uset = s.uset := rfl
@[simp] theorem State.setLive_sts (c : Settings) (s : State) : (s.setLive c).sts = s.sts := rfl
@[simp] theorem State.setLive_bfb (c : Settings) (s : State) : (s.setLive c).bfb = s.bfb := rfl
@[simp] theorem State.setLive_term (c : Settings) (s : State) : (s.setLive c).term = s.term := rfl
@[simp] theorem State.setLive_events (c : Settings) (s : State) : (s.setLive c).events = s.events := rfl
@[simp] theorem State.setLive_avg (c : Settings) (s : State) : (s.setLive c).avg = s.avg := rfl
@[simp] theorem State.setLive_energy (c : Settings) (s : State) : (s.setLive c).energy = s.energy := rfl
@[simp] theorem State.setLive_cap (c : Settings) (s : State) : (s.setLive c).cap = s.cap := rfl
@[simp] theorem State.setLive_cmp (c : Settings) (s : State) : (s.setLive c).cmp = s.cmp := rfl

-- ===================================================================== setCmp

@[simp] theorem State.setCmp_pending (c : Cmp) (s : State) : (s.setCmp c).pending = s.pending := rfl
@[simp] theorem State.setCmp_straps (c : Cmp) (s : State) : (s.setCmp c).straps = s.straps := rfl
@[simp] theorem State.setCmp_lines (c : Cmp) (s : State) : (s.setCmp c).lines = s.lines := rfl
@[simp] theorem State.setCmp_elapsed (c : Cmp) (s : State) : (s.setCmp c).elapsed = s.elapsed := rfl
@[simp] theorem State.setCmp_stationTime (c : Cmp) (s : State) : (s.setCmp c).stationTime = s.stationTime := rfl
@[simp] theorem State.setCmp_subUs (c : Cmp) (s : State) : (s.setCmp c).subUs = s.subUs := rfl
@[simp] theorem State.setCmp_unset (c : Cmp) (s : State) : (s.setCmp c).unset = s.unset := rfl
@[simp] theorem State.setCmp_aqu (c : Cmp) (s : State) : (s.setCmp c).aqu = s.aqu := rfl
@[simp] theorem State.setCmp_disc (c : Cmp) (s : State) : (s.setCmp c).disc = s.disc := rfl
@[simp] theorem State.setCmp_feeder (c : Cmp) (s : State) : (s.setCmp c).feeder = s.feeder := rfl
@[simp] theorem State.setCmp_sec (c : Cmp) (s : State) : (s.setCmp c).sec = s.sec := rfl
@[simp] theorem State.setCmp_link (c : Cmp) (s : State) : (s.setCmp c).link = s.link := rfl
@[simp] theorem State.setCmp_upPort (c : Cmp) (s : State) : (s.setCmp c).upPort = s.upPort := rfl
@[simp] theorem State.setCmp_dnPort (c : Cmp) (s : State) : (s.setCmp c).dnPort = s.dnPort := rfl
@[simp] theorem State.setCmp_group (c : Cmp) (s : State) : (s.setCmp c).group = s.group := rfl
@[simp] theorem State.setCmp_sync (c : Cmp) (s : State) : (s.setCmp c).sync = s.sync := rfl
@[simp] theorem State.setCmp_uset (c : Cmp) (s : State) : (s.setCmp c).uset = s.uset := rfl
@[simp] theorem State.setCmp_sts (c : Cmp) (s : State) : (s.setCmp c).sts = s.sts := rfl
@[simp] theorem State.setCmp_bfb (c : Cmp) (s : State) : (s.setCmp c).bfb = s.bfb := rfl
@[simp] theorem State.setCmp_term (c : Cmp) (s : State) : (s.setCmp c).term = s.term := rfl
@[simp] theorem State.setCmp_events (c : Cmp) (s : State) : (s.setCmp c).events = s.events := rfl
@[simp] theorem State.setCmp_avg (c : Cmp) (s : State) : (s.setCmp c).avg = s.avg := rfl
@[simp] theorem State.setCmp_energy (c : Cmp) (s : State) : (s.setCmp c).energy = s.energy := rfl
@[simp] theorem State.setCmp_cap (c : Cmp) (s : State) : (s.setCmp c).cap = s.cap := rfl
@[simp] theorem State.setCmp_sst (c : Cmp) (s : State) : (s.setCmp c).sst = s.sst := rfl

-- ===================================================================== log

@[simp] theorem State.log_pending (b : Block) (n : Nat) (e : EventKind) (v1 v2 : Word16) (r : CapRef) (s : State) : (s.log b n e v1 v2 r).pending = s.pending := rfl
@[simp] theorem State.log_straps (b : Block) (n : Nat) (e : EventKind) (v1 v2 : Word16) (r : CapRef) (s : State) : (s.log b n e v1 v2 r).straps = s.straps := rfl
@[simp] theorem State.log_lines (b : Block) (n : Nat) (e : EventKind) (v1 v2 : Word16) (r : CapRef) (s : State) : (s.log b n e v1 v2 r).lines = s.lines := rfl
@[simp] theorem State.log_elapsed (b : Block) (n : Nat) (e : EventKind) (v1 v2 : Word16) (r : CapRef) (s : State) : (s.log b n e v1 v2 r).elapsed = s.elapsed := rfl
@[simp] theorem State.log_stationTime (b : Block) (n : Nat) (e : EventKind) (v1 v2 : Word16) (r : CapRef) (s : State) : (s.log b n e v1 v2 r).stationTime = s.stationTime := rfl
@[simp] theorem State.log_subUs (b : Block) (n : Nat) (e : EventKind) (v1 v2 : Word16) (r : CapRef) (s : State) : (s.log b n e v1 v2 r).subUs = s.subUs := rfl
@[simp] theorem State.log_unset (b : Block) (n : Nat) (e : EventKind) (v1 v2 : Word16) (r : CapRef) (s : State) : (s.log b n e v1 v2 r).unset = s.unset := rfl
@[simp] theorem State.log_aqu (b : Block) (n : Nat) (e : EventKind) (v1 v2 : Word16) (r : CapRef) (s : State) : (s.log b n e v1 v2 r).aqu = s.aqu := rfl
@[simp] theorem State.log_disc (b : Block) (n : Nat) (e : EventKind) (v1 v2 : Word16) (r : CapRef) (s : State) : (s.log b n e v1 v2 r).disc = s.disc := rfl
@[simp] theorem State.log_feeder (b : Block) (n : Nat) (e : EventKind) (v1 v2 : Word16) (r : CapRef) (s : State) : (s.log b n e v1 v2 r).feeder = s.feeder := rfl
@[simp] theorem State.log_sec (b : Block) (n : Nat) (e : EventKind) (v1 v2 : Word16) (r : CapRef) (s : State) : (s.log b n e v1 v2 r).sec = s.sec := rfl
@[simp] theorem State.log_link (b : Block) (n : Nat) (e : EventKind) (v1 v2 : Word16) (r : CapRef) (s : State) : (s.log b n e v1 v2 r).link = s.link := rfl
@[simp] theorem State.log_upPort (b : Block) (n : Nat) (e : EventKind) (v1 v2 : Word16) (r : CapRef) (s : State) : (s.log b n e v1 v2 r).upPort = s.upPort := rfl
@[simp] theorem State.log_dnPort (b : Block) (n : Nat) (e : EventKind) (v1 v2 : Word16) (r : CapRef) (s : State) : (s.log b n e v1 v2 r).dnPort = s.dnPort := rfl
@[simp] theorem State.log_group (b : Block) (n : Nat) (e : EventKind) (v1 v2 : Word16) (r : CapRef) (s : State) : (s.log b n e v1 v2 r).group = s.group := rfl
@[simp] theorem State.log_sync (b : Block) (n : Nat) (e : EventKind) (v1 v2 : Word16) (r : CapRef) (s : State) : (s.log b n e v1 v2 r).sync = s.sync := rfl
@[simp] theorem State.log_uset (b : Block) (n : Nat) (e : EventKind) (v1 v2 : Word16) (r : CapRef) (s : State) : (s.log b n e v1 v2 r).uset = s.uset := rfl
@[simp] theorem State.log_sts (b : Block) (n : Nat) (e : EventKind) (v1 v2 : Word16) (r : CapRef) (s : State) : (s.log b n e v1 v2 r).sts = s.sts := rfl
@[simp] theorem State.log_bfb (b : Block) (n : Nat) (e : EventKind) (v1 v2 : Word16) (r : CapRef) (s : State) : (s.log b n e v1 v2 r).bfb = s.bfb := rfl
@[simp] theorem State.log_term (b : Block) (n : Nat) (e : EventKind) (v1 v2 : Word16) (r : CapRef) (s : State) : (s.log b n e v1 v2 r).term = s.term := rfl
@[simp] theorem State.log_avg (b : Block) (n : Nat) (e : EventKind) (v1 v2 : Word16) (r : CapRef) (s : State) : (s.log b n e v1 v2 r).avg = s.avg := rfl
@[simp] theorem State.log_energy (b : Block) (n : Nat) (e : EventKind) (v1 v2 : Word16) (r : CapRef) (s : State) : (s.log b n e v1 v2 r).energy = s.energy := rfl
@[simp] theorem State.log_cap (b : Block) (n : Nat) (e : EventKind) (v1 v2 : Word16) (r : CapRef) (s : State) : (s.log b n e v1 v2 r).cap = s.cap := rfl
@[simp] theorem State.log_cmp (b : Block) (n : Nat) (e : EventKind) (v1 v2 : Word16) (r : CapRef) (s : State) : (s.log b n e v1 v2 r).cmp = s.cmp := rfl
@[simp] theorem State.log_sst (b : Block) (n : Nat) (e : EventKind) (v1 v2 : Word16) (r : CapRef) (s : State) : (s.log b n e v1 v2 r).sst = s.sst := rfl

-- ===================================================================== setLine

@[simp] theorem State.setLine_pending (t : Fin 16) (level : Bool) (s : State) : (s.setLine t level).pending = s.pending := rfl
@[simp] theorem State.setLine_straps (t : Fin 16) (level : Bool) (s : State) : (s.setLine t level).straps = s.straps := rfl
@[simp] theorem State.setLine_elapsed (t : Fin 16) (level : Bool) (s : State) : (s.setLine t level).elapsed = s.elapsed := rfl
@[simp] theorem State.setLine_stationTime (t : Fin 16) (level : Bool) (s : State) : (s.setLine t level).stationTime = s.stationTime := rfl
@[simp] theorem State.setLine_subUs (t : Fin 16) (level : Bool) (s : State) : (s.setLine t level).subUs = s.subUs := rfl
@[simp] theorem State.setLine_unset (t : Fin 16) (level : Bool) (s : State) : (s.setLine t level).unset = s.unset := rfl
@[simp] theorem State.setLine_aqu (t : Fin 16) (level : Bool) (s : State) : (s.setLine t level).aqu = s.aqu := rfl
@[simp] theorem State.setLine_disc (t : Fin 16) (level : Bool) (s : State) : (s.setLine t level).disc = s.disc := rfl
@[simp] theorem State.setLine_feeder (t : Fin 16) (level : Bool) (s : State) : (s.setLine t level).feeder = s.feeder := rfl
@[simp] theorem State.setLine_sec (t : Fin 16) (level : Bool) (s : State) : (s.setLine t level).sec = s.sec := rfl
@[simp] theorem State.setLine_link (t : Fin 16) (level : Bool) (s : State) : (s.setLine t level).link = s.link := rfl
@[simp] theorem State.setLine_upPort (t : Fin 16) (level : Bool) (s : State) : (s.setLine t level).upPort = s.upPort := rfl
@[simp] theorem State.setLine_dnPort (t : Fin 16) (level : Bool) (s : State) : (s.setLine t level).dnPort = s.dnPort := rfl
@[simp] theorem State.setLine_group (t : Fin 16) (level : Bool) (s : State) : (s.setLine t level).group = s.group := rfl
@[simp] theorem State.setLine_sync (t : Fin 16) (level : Bool) (s : State) : (s.setLine t level).sync = s.sync := rfl
@[simp] theorem State.setLine_uset (t : Fin 16) (level : Bool) (s : State) : (s.setLine t level).uset = s.uset := rfl
@[simp] theorem State.setLine_sts (t : Fin 16) (level : Bool) (s : State) : (s.setLine t level).sts = s.sts := rfl
@[simp] theorem State.setLine_bfb (t : Fin 16) (level : Bool) (s : State) : (s.setLine t level).bfb = s.bfb := rfl
@[simp] theorem State.setLine_term (t : Fin 16) (level : Bool) (s : State) : (s.setLine t level).term = s.term := rfl
@[simp] theorem State.setLine_events (t : Fin 16) (level : Bool) (s : State) : (s.setLine t level).events = s.events := rfl
@[simp] theorem State.setLine_avg (t : Fin 16) (level : Bool) (s : State) : (s.setLine t level).avg = s.avg := rfl
@[simp] theorem State.setLine_energy (t : Fin 16) (level : Bool) (s : State) : (s.setLine t level).energy = s.energy := rfl
@[simp] theorem State.setLine_cap (t : Fin 16) (level : Bool) (s : State) : (s.setLine t level).cap = s.cap := rfl
@[simp] theorem State.setLine_cmp (t : Fin 16) (level : Bool) (s : State) : (s.setLine t level).cmp = s.cmp := rfl
@[simp] theorem State.setLine_sst (t : Fin 16) (level : Bool) (s : State) : (s.setLine t level).sst = s.sst := rfl

-- ===================================================================== what an update sets

@[simp] theorem State.setFeeder_feeder (k : Fin 6) (r : Feeder) (s : State) : (s.setFeeder k r).feeder = s.feeder.set k r := rfl

theorem State.setFeeder_self (k : Fin 6) (r : Feeder) (s : State) : (s.setFeeder k r).feeder[k] = r := by simp

theorem State.setFeeder_other (k j : Fin 6) (r : Feeder) (s : State) (h : k ≠ j) : (s.setFeeder k r).feeder[j] = s.feeder[j] := by
  simp only [State.setFeeder_feeder, Fin.getElem_fin]
  exact Vector.getElem_set_ne _ _ (fun e => h (Fin.ext e))

@[simp] theorem State.setDisc_disc (k : Fin 6) (r : Disc) (s : State) : (s.setDisc k r).disc = s.disc.set k r := rfl

theorem State.setDisc_self (k : Fin 6) (r : Disc) (s : State) : (s.setDisc k r).disc[k] = r := by simp

theorem State.setDisc_other (k j : Fin 6) (r : Disc) (s : State) (h : k ≠ j) : (s.setDisc k r).disc[j] = s.disc[j] := by
  simp only [State.setDisc_disc, Fin.getElem_fin]
  exact Vector.getElem_set_ne _ _ (fun e => h (Fin.ext e))

@[simp] theorem State.setSec_sec (k : Fin 6) (r : Section) (s : State) : (s.setSec k r).sec = s.sec.set k r := rfl

theorem State.setSec_self (k : Fin 6) (r : Section) (s : State) : (s.setSec k r).sec[k] = r := by simp

theorem State.setSec_other (k j : Fin 6) (r : Section) (s : State) (h : k ≠ j) : (s.setSec k r).sec[j] = s.sec[j] := by
  simp only [State.setSec_sec, Fin.getElem_fin]
  exact Vector.getElem_set_ne _ _ (fun e => h (Fin.ext e))

@[simp] theorem State.setLink_link (k : Fin 4) (r : LinkRec) (s : State) : (s.setLink k r).link = s.link.set k r := rfl

theorem State.setLink_self (k : Fin 4) (r : LinkRec) (s : State) : (s.setLink k r).link[k] = r := by simp

theorem State.setLink_other (k j : Fin 4) (r : LinkRec) (s : State) (h : k ≠ j) : (s.setLink k r).link[j] = s.link[j] := by
  simp only [State.setLink_link, Fin.getElem_fin]
  exact Vector.getElem_set_ne _ _ (fun e => h (Fin.ext e))

@[simp] theorem State.setGroupRec_group (k : Fin 2) (r : GroupRec) (s : State) : (s.setGroupRec k r).group = s.group.set k r := rfl

theorem State.setGroupRec_self (k : Fin 2) (r : GroupRec) (s : State) : (s.setGroupRec k r).group[k] = r := by simp

theorem State.setGroupRec_other (k j : Fin 2) (r : GroupRec) (s : State) (h : k ≠ j) : (s.setGroupRec k r).group[j] = s.group[j] := by
  simp only [State.setGroupRec_group, Fin.getElem_fin]
  exact Vector.getElem_set_ne _ _ (fun e => h (Fin.ext e))

@[simp] theorem State.setSyncRec_sync (k : Fin 2) (r : SyncRec) (s : State) : (s.setSyncRec k r).sync = s.sync.set k r := rfl

theorem State.setSyncRec_self (k : Fin 2) (r : SyncRec) (s : State) : (s.setSyncRec k r).sync[k] = r := by simp

theorem State.setSyncRec_other (k j : Fin 2) (r : SyncRec) (s : State) (h : k ≠ j) : (s.setSyncRec k r).sync[j] = s.sync[j] := by
  simp only [State.setSyncRec_sync, Fin.getElem_fin]
  exact Vector.getElem_set_ne _ _ (fun e => h (Fin.ext e))

@[simp] theorem State.setTerm_term (k : Fin 16) (r : Terminal) (s : State) : (s.setTerm k r).term = s.term.set k r := rfl

theorem State.setTerm_self (k : Fin 16) (r : Terminal) (s : State) : (s.setTerm k r).term[k] = r := by simp

theorem State.setTerm_other (k j : Fin 16) (r : Terminal) (s : State) (h : k ≠ j) : (s.setTerm k r).term[j] = s.term[j] := by
  simp only [State.setTerm_term, Fin.getElem_fin]
  exact Vector.getElem_set_ne _ _ (fun e => h (Fin.ext e))

@[simp] theorem State.setBfb_bfb (k : Fin 6) (r : Bfb) (s : State) : (s.setBfb k r).bfb = s.bfb.set k r := rfl

theorem State.setBfb_self (k : Fin 6) (r : Bfb) (s : State) : (s.setBfb k r).bfb[k] = r := by simp

theorem State.setBfb_other (k j : Fin 6) (r : Bfb) (s : State) (h : k ≠ j) : (s.setBfb k r).bfb[j] = s.bfb[j] := by
  simp only [State.setBfb_bfb, Fin.getElem_fin]
  exact Vector.getElem_set_ne _ _ (fun e => h (Fin.ext e))

@[simp] theorem State.setSts_sts (c : Sts) (s : State) : (s.setSts c).sts = c := rfl
@[simp] theorem State.setCmp_cmp (c : Cmp) (s : State) : (s.setCmp c).cmp = c := rfl
@[simp] theorem State.setLive_sst (c : Settings) (s : State) : (s.setLive c).sst = { s.sst with live := c } := rfl
@[simp] theorem State.setChannel_channels (c : Fin 17) (r : Channel) (s : State) :
    (s.setChannel c r).aqu.channels = s.aqu.channels.set c r := rfl
@[simp] theorem State.setChannel_latest (c : Fin 17) (r : Channel) (s : State) :
    (s.setChannel c r).aqu.latest = s.aqu.latest := rfl
@[simp] theorem State.setChannel_clock (c : Fin 17) (r : Channel) (s : State) :
    (s.setChannel c r).aqu.clock = s.aqu.clock := rfl
@[simp] theorem State.setPort_port (p : Port) (r : PortRec) (s : State) : (s.setPort p r).port p = r := by
  cases p <;> rfl

theorem State.setPort_other (p q : Port) (r : PortRec) (s : State) (h : p ≠ q) : (s.setPort p r).port q = s.port q := by
  cases p <;> cases q <;> first | rfl | exact absurd rfl h

-- ===================================================================== what an update leaves of the views


@[simp] theorem State.setFeeder_cfg (k : Fin 6) (f : Feeder) (s : State) :
    (s.setFeeder k f).cfg = s.cfg := rfl
@[simp] theorem State.setFeeder_station (k : Fin 6) (f : Feeder) (s : State) :
    (s.setFeeder k f).station = s.station := rfl
@[simp] theorem State.setFeeder_general (k : Fin 6) (f : Feeder) (i : Fin 6) (s : State) :
    (s.setFeeder k f).general i = s.general i := rfl
@[simp] theorem State.setFeeder_reading (k : Fin 6) (f : Feeder) (i : Fin 17) (s : State) :
    (s.setFeeder k f).reading i = s.reading i := rfl
@[simp] theorem State.setFeeder_bfbClosed (k : Fin 6) (f : Feeder) (i : Fin 6) (s : State) :
    (s.setFeeder k f).bfbClosed i = s.bfbClosed i := rfl
@[simp] theorem State.setFeeder_port (k : Fin 6) (f : Feeder) (q : Port) (s : State) :
    (s.setFeeder k f).port q = s.port q := by cases q <;> rfl
@[simp] theorem State.setDisc_cfg (k : Fin 6) (d : Disc) (s : State) :
    (s.setDisc k d).cfg = s.cfg := rfl
@[simp] theorem State.setDisc_station (k : Fin 6) (d : Disc) (s : State) :
    (s.setDisc k d).station = s.station := rfl
@[simp] theorem State.setDisc_general (k : Fin 6) (d : Disc) (i : Fin 6) (s : State) :
    (s.setDisc k d).general i = s.general i := rfl
@[simp] theorem State.setDisc_reading (k : Fin 6) (d : Disc) (i : Fin 17) (s : State) :
    (s.setDisc k d).reading i = s.reading i := rfl
@[simp] theorem State.setDisc_bfbClosed (k : Fin 6) (d : Disc) (i : Fin 6) (s : State) :
    (s.setDisc k d).bfbClosed i = s.bfbClosed i := rfl
@[simp] theorem State.setDisc_port (k : Fin 6) (d : Disc) (q : Port) (s : State) :
    (s.setDisc k d).port q = s.port q := by cases q <;> rfl
@[simp] theorem State.setSec_cfg (k : Fin 6) (c : Section) (s : State) :
    (s.setSec k c).cfg = s.cfg := rfl
@[simp] theorem State.setSec_station (k : Fin 6) (c : Section) (s : State) :
    (s.setSec k c).station = s.station := rfl
@[simp] theorem State.setSec_general (k : Fin 6) (c : Section) (i : Fin 6) (s : State) :
    (s.setSec k c).general i = s.general i := rfl
@[simp] theorem State.setSec_reading (k : Fin 6) (c : Section) (i : Fin 17) (s : State) :
    (s.setSec k c).reading i = s.reading i := rfl
@[simp] theorem State.setSec_bfbClosed (k : Fin 6) (c : Section) (i : Fin 6) (s : State) :
    (s.setSec k c).bfbClosed i = s.bfbClosed i := rfl
@[simp] theorem State.setSec_port (k : Fin 6) (c : Section) (q : Port) (s : State) :
    (s.setSec k c).port q = s.port q := by cases q <;> rfl
@[simp] theorem State.setLink_cfg (j : Fin 4) (l : LinkRec) (s : State) :
    (s.setLink j l).cfg = s.cfg := rfl
@[simp] theorem State.setLink_station (j : Fin 4) (l : LinkRec) (s : State) :
    (s.setLink j l).station = s.station := rfl
@[simp] theorem State.setLink_general (j : Fin 4) (l : LinkRec) (i : Fin 6) (s : State) :
    (s.setLink j l).general i = s.general i := rfl
@[simp] theorem State.setLink_reading (j : Fin 4) (l : LinkRec) (i : Fin 17) (s : State) :
    (s.setLink j l).reading i = s.reading i := rfl
@[simp] theorem State.setLink_bfbClosed (j : Fin 4) (l : LinkRec) (i : Fin 6) (s : State) :
    (s.setLink j l).bfbClosed i = s.bfbClosed i := rfl
@[simp] theorem State.setLink_port (j : Fin 4) (l : LinkRec) (q : Port) (s : State) :
    (s.setLink j l).port q = s.port q := by cases q <;> rfl
@[simp] theorem State.setGroupRec_cfg (g : Fin 2) (r : GroupRec) (s : State) :
    (s.setGroupRec g r).cfg = s.cfg := rfl
@[simp] theorem State.setGroupRec_station (g : Fin 2) (r : GroupRec) (s : State) :
    (s.setGroupRec g r).station = s.station := rfl
@[simp] theorem State.setGroupRec_general (g : Fin 2) (r : GroupRec) (i : Fin 6) (s : State) :
    (s.setGroupRec g r).general i = s.general i := rfl
@[simp] theorem State.setGroupRec_reading (g : Fin 2) (r : GroupRec) (i : Fin 17) (s : State) :
    (s.setGroupRec g r).reading i = s.reading i := rfl
@[simp] theorem State.setGroupRec_bfbClosed (g : Fin 2) (r : GroupRec) (i : Fin 6) (s : State) :
    (s.setGroupRec g r).bfbClosed i = s.bfbClosed i := rfl
@[simp] theorem State.setGroupRec_port (g : Fin 2) (r : GroupRec) (q : Port) (s : State) :
    (s.setGroupRec g r).port q = s.port q := by cases q <;> rfl
@[simp] theorem State.setSyncRec_cfg (g : Fin 2) (r : SyncRec) (s : State) :
    (s.setSyncRec g r).cfg = s.cfg := rfl
@[simp] theorem State.setSyncRec_station (g : Fin 2) (r : SyncRec) (s : State) :
    (s.setSyncRec g r).station = s.station := rfl
@[simp] theorem State.setSyncRec_general (g : Fin 2) (r : SyncRec) (i : Fin 6) (s : State) :
    (s.setSyncRec g r).general i = s.general i := rfl
@[simp] theorem State.setSyncRec_reading (g : Fin 2) (r : SyncRec) (i : Fin 17) (s : State) :
    (s.setSyncRec g r).reading i = s.reading i := rfl
@[simp] theorem State.setSyncRec_bfbClosed (g : Fin 2) (r : SyncRec) (i : Fin 6) (s : State) :
    (s.setSyncRec g r).bfbClosed i = s.bfbClosed i := rfl
@[simp] theorem State.setSyncRec_port (g : Fin 2) (r : SyncRec) (q : Port) (s : State) :
    (s.setSyncRec g r).port q = s.port q := by cases q <;> rfl
@[simp] theorem State.setTerm_cfg (t : Fin 16) (r : Terminal) (s : State) :
    (s.setTerm t r).cfg = s.cfg := rfl
@[simp] theorem State.setTerm_station (t : Fin 16) (r : Terminal) (s : State) :
    (s.setTerm t r).station = s.station := rfl
@[simp] theorem State.setTerm_general (t : Fin 16) (r : Terminal) (i : Fin 6) (s : State) :
    (s.setTerm t r).general i = s.general i := rfl
@[simp] theorem State.setTerm_reading (t : Fin 16) (r : Terminal) (i : Fin 17) (s : State) :
    (s.setTerm t r).reading i = s.reading i := rfl
@[simp] theorem State.setTerm_bfbClosed (t : Fin 16) (r : Terminal) (i : Fin 6) (s : State) :
    (s.setTerm t r).bfbClosed i = s.bfbClosed i := rfl
@[simp] theorem State.setTerm_port (t : Fin 16) (r : Terminal) (q : Port) (s : State) :
    (s.setTerm t r).port q = s.port q := by cases q <;> rfl
@[simp] theorem State.setBfb_cfg (k : Fin 6) (b : Bfb) (s : State) :
    (s.setBfb k b).cfg = s.cfg := rfl
@[simp] theorem State.setBfb_station (k : Fin 6) (b : Bfb) (s : State) :
    (s.setBfb k b).station = s.station := rfl
@[simp] theorem State.setBfb_general (k : Fin 6) (b : Bfb) (i : Fin 6) (s : State) :
    (s.setBfb k b).general i = s.general i := rfl
@[simp] theorem State.setBfb_reading (k : Fin 6) (b : Bfb) (i : Fin 17) (s : State) :
    (s.setBfb k b).reading i = s.reading i := rfl
@[simp] theorem State.setBfb_port (k : Fin 6) (b : Bfb) (q : Port) (s : State) :
    (s.setBfb k b).port q = s.port q := by cases q <;> rfl
@[simp] theorem State.setSts_cfg (c : Sts) (s : State) :
    (s.setSts c).cfg = s.cfg := rfl
@[simp] theorem State.setSts_station (c : Sts) (s : State) :
    (s.setSts c).station = s.station := rfl
@[simp] theorem State.setSts_general (c : Sts) (i : Fin 6) (s : State) :
    (s.setSts c).general i = s.general i := rfl
@[simp] theorem State.setSts_reading (c : Sts) (i : Fin 17) (s : State) :
    (s.setSts c).reading i = s.reading i := rfl
@[simp] theorem State.setSts_bfbClosed (c : Sts) (i : Fin 6) (s : State) :
    (s.setSts c).bfbClosed i = s.bfbClosed i := rfl
@[simp] theorem State.setSts_port (c : Sts) (q : Port) (s : State) :
    (s.setSts c).port q = s.port q := by cases q <;> rfl
@[simp] theorem State.setPort_cfg (p : Port) (r : PortRec) (s : State) :
    (s.setPort p r).cfg = s.cfg := by cases p <;> rfl
@[simp] theorem State.setPort_station (p : Port) (r : PortRec) (s : State) :
    (s.setPort p r).station = s.station := by cases p <;> rfl
@[simp] theorem State.setPort_general (p : Port) (r : PortRec) (i : Fin 6) (s : State) :
    (s.setPort p r).general i = s.general i := by cases p <;> rfl
@[simp] theorem State.setPort_reading (p : Port) (r : PortRec) (i : Fin 17) (s : State) :
    (s.setPort p r).reading i = s.reading i := by cases p <;> rfl
@[simp] theorem State.setPort_bfbClosed (p : Port) (r : PortRec) (i : Fin 6) (s : State) :
    (s.setPort p r).bfbClosed i = s.bfbClosed i := by cases p <;> rfl
@[simp] theorem State.setChannel_cfg (c : Fin 17) (r : Channel) (s : State) :
    (s.setChannel c r).cfg = s.cfg := rfl
@[simp] theorem State.setChannel_station (c : Fin 17) (r : Channel) (s : State) :
    (s.setChannel c r).station = s.station := rfl
@[simp] theorem State.setChannel_general (c : Fin 17) (r : Channel) (i : Fin 6) (s : State) :
    (s.setChannel c r).general i = s.general i := rfl
@[simp] theorem State.setChannel_reading (c : Fin 17) (r : Channel) (i : Fin 17) (s : State) :
    (s.setChannel c r).reading i = s.reading i := rfl
@[simp] theorem State.setChannel_bfbClosed (c : Fin 17) (r : Channel) (i : Fin 6) (s : State) :
    (s.setChannel c r).bfbClosed i = s.bfbClosed i := rfl
@[simp] theorem State.setChannel_port (c : Fin 17) (r : Channel) (q : Port) (s : State) :
    (s.setChannel c r).port q = s.port q := by cases q <;> rfl
@[simp] theorem State.setLive_reading (c : Settings) (i : Fin 17) (s : State) :
    (s.setLive c).reading i = s.reading i := rfl
@[simp] theorem State.setLive_bfbClosed (c : Settings) (i : Fin 6) (s : State) :
    (s.setLive c).bfbClosed i = s.bfbClosed i := rfl
@[simp] theorem State.setLive_port (c : Settings) (q : Port) (s : State) :
    (s.setLive c).port q = s.port q := by cases q <;> rfl
@[simp] theorem State.setCmp_cfg (c : Cmp) (s : State) :
    (s.setCmp c).cfg = s.cfg := rfl
@[simp] theorem State.setCmp_station (c : Cmp) (s : State) :
    (s.setCmp c).station = s.station := rfl
@[simp] theorem State.setCmp_general (c : Cmp) (i : Fin 6) (s : State) :
    (s.setCmp c).general i = s.general i := rfl
@[simp] theorem State.setCmp_reading (c : Cmp) (i : Fin 17) (s : State) :
    (s.setCmp c).reading i = s.reading i := rfl
@[simp] theorem State.setCmp_bfbClosed (c : Cmp) (i : Fin 6) (s : State) :
    (s.setCmp c).bfbClosed i = s.bfbClosed i := rfl
@[simp] theorem State.setCmp_port (c : Cmp) (q : Port) (s : State) :
    (s.setCmp c).port q = s.port q := by cases q <;> rfl
@[simp] theorem State.log_cfg (b : Block) (n : Nat) (e : EventKind) (v1 v2 : Word16) (r : CapRef) (s : State) :
    (s.log b n e v1 v2 r).cfg = s.cfg := rfl
@[simp] theorem State.log_station (b : Block) (n : Nat) (e : EventKind) (v1 v2 : Word16) (r : CapRef) (s : State) :
    (s.log b n e v1 v2 r).station = s.station := rfl
@[simp] theorem State.log_general (b : Block) (n : Nat) (e : EventKind) (v1 v2 : Word16) (r : CapRef) (i : Fin 6) (s : State) :
    (s.log b n e v1 v2 r).general i = s.general i := rfl
@[simp] theorem State.log_reading (b : Block) (n : Nat) (e : EventKind) (v1 v2 : Word16) (r : CapRef) (i : Fin 17) (s : State) :
    (s.log b n e v1 v2 r).reading i = s.reading i := rfl
@[simp] theorem State.log_bfbClosed (b : Block) (n : Nat) (e : EventKind) (v1 v2 : Word16) (r : CapRef) (i : Fin 6) (s : State) :
    (s.log b n e v1 v2 r).bfbClosed i = s.bfbClosed i := rfl
@[simp] theorem State.log_port (b : Block) (n : Nat) (e : EventKind) (v1 v2 : Word16) (r : CapRef) (q : Port) (s : State) :
    (s.log b n e v1 v2 r).port q = s.port q := by cases q <;> rfl
@[simp] theorem State.setLine_cfg (t : Fin 16) (level : Bool) (s : State) :
    (s.setLine t level).cfg = s.cfg := rfl
@[simp] theorem State.setLine_station (t : Fin 16) (level : Bool) (s : State) :
    (s.setLine t level).station = s.station := rfl
@[simp] theorem State.setLine_general (t : Fin 16) (level : Bool) (i : Fin 6) (s : State) :
    (s.setLine t level).general i = s.general i := rfl
@[simp] theorem State.setLine_reading (t : Fin 16) (level : Bool) (i : Fin 17) (s : State) :
    (s.setLine t level).reading i = s.reading i := rfl
@[simp] theorem State.setLine_bfbClosed (t : Fin 16) (level : Bool) (i : Fin 6) (s : State) :
    (s.setLine t level).bfbClosed i = s.bfbClosed i := rfl
@[simp] theorem State.setLine_port (t : Fin 16) (level : Bool) (q : Port) (s : State) :
    (s.setLine t level).port q = s.port q := by cases q <;> rfl

end Sys2Proof.Machine
end

