-- ==== Sys2Proof/Laws/Feeder.lean ====
section
/-! SUPPORT. What the shared operations of the feeder sequence do, each said once: the state after them, whole. -/
namespace Sys2Proof.Laws

open Sys2Proof Sys2Proof.Machine

/-- Handing a trigger changes the capture store alone. -/
theorem trigger_spec (n : Nat) (s : State) : ∃ c, (s.trigger n).1 = { s with cap := c } := by
  unfold State.trigger
  split
  · exact ⟨_, rfl⟩
  · split <;> exact ⟨_, rfl⟩

/-- Setting intertrip_out logs INTERTRIP_SENT where it was clear. -/
theorem setItOut_spec (k : Fin 6) (cause : Nat) (s : State) :
    s.setItOut k cause = { s with
      sec := s.sec.set k { s.sec[k] with itOut := true }
      events :=
        if s.sec[k].itOut = true then s.events
        else pushEvent s.events (s.event .sco (k.val + 1) .intertripSent (uword (k.val + 1)) (uword cause) .none) } := by
  simp only [State.setItOut, Fin.getElem_fin]
  by_cases h : s.sec[k.val].itOut = true
  · have : { s.sec[k.val] with itOut := true } = s.sec[k.val] := by cases hs : s.sec[k.val]; simp_all
    simp only [h, if_true, this, Vector.set_getElem_self]
  · simp [h, State.setSec, State.log, State.event]

/-- A move of feeder k. -/
theorem moveFeeder_spec (k : Fin 6) (f : Feeder) (st : FState) (timer : Option Nat) (s : State) :
    s.moveFeeder k f st timer = { s with
      feeder := s.feeder.set k (f.take st timer)
      disc := s.disc.set k (s.disc[k].onMove s.feeder[k].state st)
      sec := s.sec.set k { s.sec[k] with role := st.role } } := rfl

/-- Every trip: the feeder's record, the discriminator made inactive, the role cleared, TRIP_FEEDER logged. -/
theorem openBreaker_spec (k : Fin 6) (o : Origin) (e : Element) (sotf : Bool) (d : Dest) (lc : LockCause)
    (bc : BlockCause) (q : Word16) (s : State) :
    ∃ c r, s.openBreaker k o e sotf d lc bc q = { s with
      feeder := s.feeder.set k { s.feeder[k] with
                                 state := .opening, origin := o, element := e, sotf := sotf, dest := some d
                                 phase := none, manual := false, timer := some (s.general k).tOpenMax
                                 tripAt := s.elapsed
                                 lockCause := if lc = .none then s.feeder[k].lockCause else lc
                                 blockCause :=
                                   if d = .blocked then (if bc = .none then s.feeder[k].blockCause else bc)
                                   else .none }
      disc := s.disc.set k (s.disc[k].onMove s.feeder[k].state .opening)
      sec := s.sec.set k { s.sec[k] with role := .none }
      cap := c
      events := pushEvent s.events (s.event .fpu (k.val + 1) .tripFeeder (pair o.code e.code) q r) } := by
  unfold State.openBreaker
  dsimp only
  generalize hm : s.moveFeeder k _ .opening _ = m
  obtain ⟨c, hc⟩ := trigger_spec (srcTrip k) m
  refine ⟨c, (m.trigger (srcTrip k)).2, ?_⟩
  rw [hc]
  generalize (m.trigger (srcTrip k)).2 = r
  subst hm
  simp [State.log, State.event, moveFeeder_spec, Feeder.take, FState.role, FState.keepsManual]

/-- Entering LOCKED_OUT. -/
theorem lockOut_spec (k : Fin 6) (c : LockCause) (s : State) :
    s.lockOut k c = { s with
      feeder := s.feeder.set k { s.feeder[k] with
                                 state := .lockedOut, lockCause := c, timer := none, phase := none, dest := none
                                 manual := false, blockCause := .none }
      disc := s.disc.set k (s.disc[k].onMove s.feeder[k].state .lockedOut)
      sec := s.sec.set k { s.sec[k] with role := .none }
      events := pushEvent s.events
        (s.event .fpu (k.val + 1) .lockout (uword c.code) (uword s.feeder[k].attempt) .none) } := by
  simp [State.lockOut, State.logFeeder, State.log, State.event, moveFeeder_spec, Feeder.take, FState.role,
    FState.keepsManual]

/-- Entering OPEN. -/
theorem enterOpen_spec (k : Fin 6) (s : State) :
    s.enterOpen k = { s with
      feeder := s.feeder.set k { s.feeder[k] with
                                 state := .open, timer := none, phase := none, dest := none, manual := false
                                 blockCause := .none }
      disc := s.disc.set k (s.disc[k].onMove s.feeder[k].state .open)
      sec := s.sec.set k { s.sec[k] with role := .none } } := by
  simp [State.enterOpen, moveFeeder_spec, Feeder.take, FState.role, FState.keepsManual]

/-- Entering BLOCKED. -/
theorem enterBlocked_spec (k : Fin 6) (c : BlockCause) (s : State) :
    s.enterBlocked k c = { s with
      feeder := s.feeder.set k { s.feeder[k] with
                                 state := .blocked, timer := none, phase := none, dest := none, manual := false
                                 blockCause := c }
      disc := s.disc.set k (s.disc[k].onMove s.feeder[k].state .blocked)
      sec := s.sec.set k { s.sec[k] with role := .none } } := by
  simp [State.enterBlocked, moveFeeder_spec, Feeder.take, FState.role, FState.keepsManual]

/-- Entering CLOSING. -/
theorem enterClosing_spec (k : Fin 6) (p : ClosePath) (s : State) :
    s.enterClosing k p = { s with
      feeder := s.feeder.set k { s.feeder[k] with
                                 state := .closing, path := p, timer := some (s.general k).tCloseMax, phase := none
                                 dest := none, blockCause := .none }
      disc := s.disc.set k (s.disc[k].onMove s.feeder[k].state .closing)
      sec := s.sec.set k { s.sec[k] with role := .none } } := by
  simp [State.enterClosing, moveFeeder_spec, Feeder.take, FState.role, FState.keepsManual]

/-- Entering CLOSED. -/
theorem enterClosed_spec (k : Fin 6) (s : State) :
    s.enterClosed k = { s with
      feeder := s.feeder.set k { s.feeder[k] with
                                 state := .closed, origin := .none, element := .none, sotf := false
                                 timer := some ((s.general k).tReclaim * 1000), phase := none, dest := none
                                 manual := false, blockCause := .none }
      disc := s.disc.set k (s.disc[k].onMove s.feeder[k].state .closed)
      sec := s.sec.set k { s.sec[k] with role := .none, itOut := false } } := by
  simp [State.enterClosed, State.takeClosed, State.clearItOut, State.setSec, moveFeeder_spec, Feeder.take, FState.role,
    FState.keepsManual]

/-- The end of a line test: the record and its event. -/
theorem testResult_spec (k : Fin 6) (o : TestOutcome) (rline : Nat) (v : Option TestValues) (s : State) :
    s.testResult k o rline v = { s with
      feeder := s.feeder.set k { s.feeder[k] with
                                 liveRun := if s.feeder[k].testing then 0 else s.feeder[k].liveRun
                                 lastTest := some { outcome := o, rline := rline, values := v } }
      events := pushEvent s.events
        (s.event .fpu (k.val + 1) .lineTestResult (uword rline) (uword o.code) .none) } := by
  by_cases h : s.feeder[k].testing = true <;>
    simp_all [State.testResult, Feeder.release, State.logFeeder, State.log, State.event, State.setFeeder]

end Sys2Proof.Laws
end

