-- ==== Sys2Proof/Laws/Ops.lean ====
section
/-! SUPPORT. What the shared operations of the events, the sections, the groups, the captures, the ports of the links and
the control message port do, each said once. -/
namespace Sys2Proof.Laws

open Sys2Proof Sys2Proof.Machine

-- ===================================================================== events (R172, R173)

/-- The mark of lost entries leaves the length. -/
theorem markOldest_length (q : List Event) : (markOldest q).length = q.length := by cases q <;> rfl

/-- An append leaves at most 256 entries. -/
theorem pushEvent_length_le (q : List Event) (e : Event) : (pushEvent q e).length ≤ 256 := by
  unfold pushEvent
  split
  · simp; omega
  · simp [markOldest_length]; omega

/-- Logging appends one event and changes nothing else. -/
theorem log_spec (b : Block) (i : Nat) (kind : EventKind) (v1 v2 : Word16) (r : CapRef) (s : State) :
    s.log b i kind v1 v2 r = { s with events := pushEvent s.events (s.event b i kind v1 v2 r) } := rfl

/-- A timer has run out exactly when it stands at 0 (log 1). -/
@[simp] theorem expired_iff (t : Option Nat) : expired t = true ↔ t = some 0 := by simp [expired]

/-- Ageing leaves a history as it is or takes its oldest entry (R126, R149). -/
theorem age_spec (limit : Nat) (h : List Time) (s : State) : s.age limit h = h ∨ s.age limit h = h.tail := by
  cases h with
  | nil => exact .inl rfl
  | cons e rest => by_cases hl : limit ≤ s.since e <;> simp [State.age, hl]

/-- Pruning only takes entries away. -/
theorem prune_length_le (limit : Nat) (h : List Time) (s : State) : (s.prune limit h).length ≤ h.length :=
  List.length_filter_le _ _

-- ===================================================================== triggers (R186)

/-- A source outside the trigger set is ignored. -/
theorem trigger_ignored (n : Nat) (s : State) (h : s.cap.active.triggers.getLsbD n = false) :
    s.trigger n = (s, .none) := by simp [State.trigger, h]

/-- A trigger with no buffer ARMED or RECORDING is missed. -/
theorem trigger_missed (n : Nat) (s : State) (h : s.cap.active.triggers.getLsbD n = true) (hl : s.cap.live = none) :
    s.trigger n = ({ s with cap := { s.cap with missed := min 65535 (s.cap.missed + 1) } }, .missed) := by
  simp [State.trigger, h, hl]

/-- A trigger with a live buffer starts its record from ARMED and joins it from RECORDING. -/
theorem trigger_taken (n : Nat) (b : BufId) (s : State) (h : s.cap.active.triggers.getLsbD n = true)
    (hl : s.cap.live = some b) :
    let r := if (s.cap.buf b).state = .armed then s.startRecord n (s.cap.buf b) else s.joinRecord n (s.cap.buf b)
    s.trigger n = ({ s with cap := s.cap.setBuf b r }, b.ref) := by
  simp [State.trigger, h, hl]

/-- The arming test changes the capture store alone. -/
theorem armTest_spec (s : State) : ∃ c, s.armTest = { s with cap := c } := by
  unfold State.armTest
  split
  · split
    · exact ⟨_, rfl⟩
    · split <;> exact ⟨_, rfl⟩
  · exact ⟨_, rfl⟩

/-- The completion of a record logs CAPTURE_DONE and otherwise changes the capture store alone. -/
theorem completeCapture_spec (b : BufId) (s : State) :
    ∃ c, s.completeCapture b = { s with
      cap := c
      events := pushEvent s.events (s.event .cps (b.code + 1) .captureDone (uword (s.cap.buf b).finish.actualPre)
        (uword (s.cap.buf b).finish.actualPost) b.ref) } := by
  unfold State.completeCapture
  exact armTest_spec _

-- ===================================================================== groups (R121..R127)

/-- A move of a group: its record, and GROUP_STATE. -/
theorem moveGroup_spec (g : Fin 2) (st : GState) (why : GReason) (ref : CapRef) (s : State) :
    s.moveGroup g st why ref = { s with
      group := s.group.set g (s.group[g].take st)
      events := pushEvent s.events
        (s.event .rcu (g.val + 1) .groupState (pair (g.val + 1) st.code) (uword (gReasonCode why)) ref) } := rfl

/-- The start test changes groups and events alone. -/
theorem startTest_spec (g : Fin 2) (s : State) : ∃ r e, s.startTest g = { s with group := r, events := e } := by
  unfold State.startTest
  split <;> exact ⟨_, _, rfl⟩

/-- A cause that blocks a group changes groups, events and the capture store alone. -/
theorem blockGroup_spec (g : Fin 2) (c : GCause) (s : State) :
    ∃ r e p, s.blockGroup g c = { s with group := r, events := e, cap := p } := by
  unfold State.blockGroup
  split
  · obtain ⟨p, hp⟩ := trigger_spec srcGroupBlock s
    dsimp only
    rw [hp]
    exact ⟨_, _, p, rfl⟩
  · exact ⟨_, _, _, rfl⟩

/-- A change of mode, handed to one group, changes groups and events alone. -/
theorem groupOnMode_spec (m : Mode) (g : Fin 2) (s : State) :
    ∃ r e, s.groupOnMode m g = { s with group := r, events := e } := by
  cases m with
  | start => exact ⟨_, _, rfl⟩
  | normal => exact startTest_spec g s
  | reduced => exact startTest_spec g s
  | standby => simp only [State.groupOnMode]; split <;> exact ⟨_, _, rfl⟩
  | safe => simp only [State.groupOnMode]; split <;> exact ⟨_, _, rfl⟩

/-- A change of mode, handed to both groups. -/
theorem groupsOnMode_spec (m : Mode) (s : State) : ∃ r e, s.groupsOnMode m = { s with group := r, events := e } := by
  obtain ⟨r, e, h⟩ := groupOnMode_spec m 0 s
  obtain ⟨r', e', h'⟩ := groupOnMode_spec m 1 { s with group := r, events := e }
  exact ⟨r', e', by simp only [State.groupsOnMode, groups2, List.foldl_cons, List.foldl_nil, h, h']⟩

/-- A change of mode: the mode, the groups and events alone (R136). -/
theorem changeMode_spec (m : Mode) (why : ModeCause) (s : State) :
    ∃ r e, s.changeMode m why = { s with sts := { s.sts with mode := m }, group := r, events := e } :=
  groupsOnMode_spec m _

-- ===================================================================== SAFE causes (R143)

/-- A cause that is present already changes nothing. -/
theorem causePresent_again (c : SafeCause) (s : State) (h : s.sts.hasCause c = true) : s.causePresent c = s := by
  simp [State.causePresent, h]

/-- A further cause in SAFE is recorded and logged; nothing else changes. -/
theorem causePresent_in_safe (c : SafeCause) (s : State) (h : s.sts.hasCause c = false) (hm : s.sts.mode = .safe) :
    s.causePresent c = { s with
      sts := s.sts.setCause c true
      events := pushEvent s.events
        (s.event .sts 0 .safeCause (safeCauseValue c) (uword causePresentCode) .none) } := by
  have : (s.sts.setCause c true).mode = .safe := by cases c <;> exact hm
  simp [State.causePresent, h, State.logSts, State.log, State.setSts, State.event, this]

/-- The clearing of a cause: recorded and logged where it was present. -/
theorem causeCleared_spec (c : SafeCause) (s : State) (h : s.sts.hasCause c = true) :
    s.causeCleared c = { s with
      sts := s.sts.setCause c false
      events := pushEvent s.events
        (s.event .sts 0 .safeCause (safeCauseValue c) (uword causeClearedCode) .none) } := by
  simp [State.causeCleared, h, State.logSts, State.log, State.setSts, State.event]

-- ===================================================================== sections (R47, R48, R52)

/-- A re-evaluation that finds no change leaves everything. -/
theorem reevaluate_same (k : Fin 6) (s : State) (h : s.fedDouble k = s.sec[k].double) : s.reevaluate k = s := by
  simp [State.reevaluate, h]

/-- A re-evaluation changes the section's record and events alone. -/
theorem reevaluate_spec (k : Fin 6) (s : State) : ∃ c e, s.reevaluate k = { s with sec := c, events := e } := by
  unfold State.reevaluate
  split <;> exact ⟨_, _, rfl⟩

/-- An intertrip that finds the feeder neither CLOSED nor CLOSING is logged and changes nothing else. -/
theorem intertripReceived_inactive (k : Fin 6) (part : Nat) (s : State) (h : s.feeder[k].state.active = false) :
    s.intertripReceived k part = { s with
      events := pushEvent s.events
        (s.event .sco (k.val + 1) .intertripReceived (uword (k.val + 1)) (uword part) .none) } := by
  have : s.feeder[k.val].state.active = false := h
  simp [State.intertripReceived, State.intertrip, State.log, State.event, this]

-- ===================================================================== transmit queues (R96)

/-- The queue without its oldest FORWARDED telegram is one shorter. -/
theorem dropForwarded_length (q r : List Queued) (h : dropForwarded q = some r) : r.length + 1 = q.length := by
  induction q generalizing r with
  | nil => simp [dropForwarded] at h
  | cons a q ih =>
    simp only [dropForwarded] at h
    split at h
    · obtain ⟨t, ht, rfl⟩ := Option.map_eq_some_iff.1 h
      simp [← ih t ht]
    · cases h; rfl

/-- A filter that drops one entry at least is shorter. -/
theorem filter_not_length_lt {α : Type} (p : α → Bool) (q : List α) (h : q.any p = true) :
    (q.filter fun a => !p a).length + 1 ≤ q.length := by
  induction q with
  | nil => simp at h
  | cons a q ih =>
    by_cases ha : p a = true
    · simpa [ha] using List.length_filter_le (fun a => !p a) q
    · have hq : q.any p = true := by simpa [ha] using h
      simpa [ha] using ih hq

/-- A telegram joins within the four places of the queue. -/
theorem join_length_le (item : Queued) (r : PortRec) (h : r.queue.length ≤ 4) : (r.join item).queue.length ≤ 4 := by
  unfold PortRec.join
  split
  · split
    · have := filter_not_length_lt (replaces item.telegram) r.queue ‹_›
      simp only [List.length_append, List.length_cons, List.length_nil]; omega
    · split
      · simp only [List.length_append, List.length_cons, List.length_nil]; omega
      · split
        · have := dropForwarded_length _ _ ‹_›
          simp only [List.length_append, List.length_cons, List.length_nil]; omega
        · exact h
  · split
    · simp only [List.length_append, List.length_cons, List.length_nil]; omega
    · exact h

/-- A queue owed its emptying stays; on an idle line it is emptied at once (R92). -/
theorem emptyAfterSending_idle (r : PortRec) (h : r.sending = none) : r.emptyAfterSending = r.emptyQueue := by
  simp [PortRec.emptyAfterSending, h]

theorem emptyAfterSending_busy (r : PortRec) (h : r.sending ≠ none) : r.emptyAfterSending = { r with emptyDue := true } := by
  cases hs : r.sending with
  | none => exact absurd hs h
  | some x => simp [PortRec.emptyAfterSending, hs]

/-- A transmission beginning, and one ending, never lengthen the queue. -/
theorem startNext_length_le (now : Time) (r : PortRec) : (r.startNext now).queue.length ≤ r.queue.length := by
  unfold PortRec.startNext
  split
  · rename_i h
    simp only [h, List.length_cons]
    split <;> exact Nat.le_succ _
  · exact Nat.le_refl _

theorem sendingDone_length_le (now : Time) (r : PortRec) : (r.sendingDone now).queue.length ≤ r.queue.length := by
  unfold PortRec.sendingDone
  refine Nat.le_trans (startNext_length_le _ _) ?_
  split
  · exact Nat.zero_le _
  · exact Nat.le_refl _

/-- Queueing a telegram changes the record of its port alone. -/
theorem queueOn_spec (p : Port) (item : Queued) (s : State) :
    s.queueOn p item = s.setPort p (((s.port p).join item).startNext s.elapsed) := rfl

-- ===================================================================== the control message port (R197, R198, R204)

/-- A request on a free port is taken: the owner's answer becomes the reply in progress. -/
theorem takeRequest_free (kind tag : Byte) (answer : State → Answer) (s : State)
    (hp : s.hostHeard.cmp.restartPending = false) (hr : s.hostHeard.cmp.reply = none) :
    s.takeRequest kind tag answer = (answer s.hostHeard).begin kind tag := by
  simp [State.takeRequest, hp, hr]

/-- A request during a reply is remembered for one BUSY reply. -/
theorem takeRequest_busy (kind tag : Byte) (answer : State → Answer) (s : State) (r : Reply)
    (hp : s.hostHeard.cmp.restartPending = false) (hr : s.hostHeard.cmp.reply = some r)
    (hb : s.hostHeard.cmp.busy = none) :
    s.takeRequest kind tag answer = s.hostHeard.setCmp { s.hostHeard.cmp with busy := some (kind, tag) } := by
  simp [State.takeRequest, hp, hr, hb]

/-- A request while a BUSY reply waits, or while a Restart's reply is sent, is only heard. -/
theorem takeRequest_discarded (kind tag : Byte) (answer : State → Answer) (s : State)
    (h : s.hostHeard.cmp.restartPending = true ∨
      (s.hostHeard.cmp.reply.isSome = true ∧ s.hostHeard.cmp.busy.isSome = true)) :
    s.takeRequest kind tag answer = s.hostHeard := by
  unfold State.takeRequest
  dsimp only
  split
  · rfl
  · obtain h | ⟨hr, hb⟩ := h
    · contradiction
    · obtain ⟨r, hr⟩ := Option.isSome_iff_exists.1 hr
      obtain ⟨b, hb⟩ := Option.isSome_iff_exists.1 hb
      rw [hr, hb]

/-- A request of the wrong length is answered BAD_LENGTH and changes nothing. -/
theorem withLength_bad (n : Nat) (pl : List Byte) (s : State) (f : Answer) (h : pl.length ≠ n) :
    withLength n pl s f = s.badLength := by simp [withLength, h]

/-- A request of the right length is judged by its owner. -/
theorem withLength_good (n : Nat) (pl : List Byte) (s : State) (f : Answer) (h : pl.length = n) :
    withLength n pl s f = f := by simp [withLength, h]

end Sys2Proof.Laws
end

