-- ==== Sys2Proof/Laws/Settle.lean ====
section
/-! SUPPORT. Settling a state in which no internal step is due leaves it as it is: what a command does from such a state
is then its own effect alone. -/
namespace Sys2Proof.Laws

open Sys2Proof.Machine

/-- A fold of steps that each leave s alone leaves s alone. -/
theorem foldl_id {α : Type} (f : State → α → State) (s : State) (l : List α) (h : ∀ a ∈ l, f s a = s) :
    l.foldl f s = s := by
  induction l with
  | nil => rfl
  | cons a l ih =>
    rw [List.foldl_cons, h a (by simp)]
    exact ih fun b hb => h b (by simp [hb])

variable {s : State}

theorem clockFailTaken_idle (h : s.clockFailDue = false) : s.clockFailTaken = s := by simp [State.clockFailTaken, h]
theorem clockGoodTaken_idle (h : s.clockGoodDue = false) : s.clockGoodTaken = s := by simp [State.clockGoodTaken, h]
theorem channelFailTaken_idle {c} (h : s.channelFailDue c = false) : s.channelFailTaken c = s := by
  simp [State.channelFailTaken, h]
theorem channelRestoredTaken_idle {c} (h : s.channelRestoredDue c = false) : s.channelRestoredTaken c = s := by
  simp [State.channelRestoredTaken, h]
theorem sotfTaken_idle {k} (h : s.sotfDue k = false) : s.sotfTaken k = s := by simp [State.sotfTaken, h]
theorem testWindowTaken_idle {k} (h : s.testWindowFull k = false) : s.testWindowTaken k = s := by
  simp [State.testWindowTaken, h]
theorem linkUpTaken_idle {j} (h : s.linkUpDue j = false) : s.linkUpTaken j = s := by simp [State.linkUpTaken, h]
theorem syncLossTaken_idle {p} (h : s.syncLossDue p = false) : s.syncLossTaken p = s := by
  simp [State.syncLossTaken, h]
theorem liveClose_idle {k} (h : s.liveLineDue k = false) : s.liveClose k = s := by simp [State.liveClose, h]
theorem syncChange_idle {g} (h : s.syncChangeDue g = false) : s.syncChange g = s := by simp [State.syncChange, h]
theorem overcurrentTaken_idle {g} (h : s.overcurrentDue g = false) : s.overcurrentTaken g = s := by
  simp [State.overcurrentTaken, h]
theorem frameFaultTaken_idle (h : s.sts.ffDue = false) : s.frameFaultTaken = s := by simp [State.frameFaultTaken, h]
theorem railOperate_idle (h : s.railDue = false) : s.railOperate = s := by simp [State.railOperate, h]
theorem averageTaken_idle (h : s.averageDue = false) : s.averageTaken = s := by simp [State.averageTaken, h]
theorem captureTaken_idle (h : s.captureDue = none) : s.captureTaken = s := by simp [State.captureTaken, h]
theorem startTaken_idle (h : s.startDue = false) : s.startTaken = s := by simp [State.startTaken, h]

/-- The one lemma about settling: a quiet state is settled. -/
theorem settle_of_quiet (h : s.quiet = true) : s.settle = s := by
  simp only [State.quiet, Bool.and_eq_true, Bool.not_eq_true', List.all_eq_true, Option.isNone_iff_eq_none] at h
  obtain ⟨⟨⟨⟨⟨⟨⟨⟨⟨⟨⟨h1, h2⟩, h3⟩, h4⟩, h5⟩, h6⟩, h7⟩, h8⟩, h9⟩, h10⟩, h11⟩, h12⟩ := h
  simp only [State.settle, clockFailTaken_idle h1, clockGoodTaken_idle h2,
    foldl_id (fun s c => s.channelFailTaken c) s channels17 (fun c hc => channelFailTaken_idle (h3 c hc).1),
    foldl_id (fun s c => s.channelRestoredTaken c) s channels17 (fun c hc => channelRestoredTaken_idle (h3 c hc).2),
    foldl_id (fun s k => s.sotfTaken k) s feeders6 (fun k hk => sotfTaken_idle (h4 k hk).1.1),
    foldl_id (fun s k => s.testWindowTaken k) s feeders6 (fun k hk => testWindowTaken_idle (h4 k hk).1.2),
    foldl_id (fun s j => s.linkUpTaken j) s partners4 (fun j hj => linkUpTaken_idle (h5 j hj)),
    foldl_id (fun s p => s.syncLossTaken p) s ports2 (fun p hp => syncLossTaken_idle (h6 p hp)),
    foldl_id (fun s k => s.liveClose k) s feeders6 (fun k hk => liveClose_idle (h4 k hk).2),
    foldl_id (fun s g => s.syncChange g) s groups2 (fun g hg => syncChange_idle (h7 g hg).1),
    foldl_id (fun s g => s.overcurrentTaken g) s groups2 (fun g hg => overcurrentTaken_idle (h7 g hg).2),
    frameFaultTaken_idle h8, railOperate_idle h9, averageTaken_idle h10, captureTaken_idle h11, startTaken_idle h12]

end Sys2Proof.Laws
end

