-- ==== Sys2Proof/Tests/Slice0.lean ====
section
/-! SUPPORT. Tests. First the smoke tests of WellFormed and the worked values of the manual, then for every statement
with hypotheses a witness (witness_<statement>): a state and operands that meet the hypotheses of each of its clauses
together, at the ends of their ranges where they have any; then small tests of single commands, each with its
expected result from the rule it names. -/
namespace Sys2Proof.Tests

open Sys2Proof Sys2Proof.Machine

-- One theorem after another: side by side, their stacks together exceed the memory a check has.
set_option Elab.async false

-- ===================================================================== states

/-- A station after START, at rest in STANDBY, with the clock GOOD and nothing due. -/
def idle : State :=
  { State.reset with
    aqu := { Aqu.reset with clock := .good }
    sts := { Sts.reset .powerOn with mode := .standby, complete := true, address := some 17, supTimer := some 8000 }
    sst := { Sst.reset (List.replicate 445 0) (some 0) with activity := .idle } }

/-- The same station, feeding with both groups RUNNING. -/
def feeding : State :=
  { idle with
    sts := { idle.sts with mode := .normal, run := true }
    group := Vector.replicate 2 { GroupRec.reset with state := .running }
    sync := Vector.replicate 2 { SyncRec.reset with locked := true, lastCross := some 0 } }

/-- The same station in SAFE with the causes given. -/
def safe (fault : Bool) : State := { idle with sts := { idle.sts with mode := .safe, frameFault := fault } }

/-- idle with feeder 1 as given. -/
def withFeeder (f : Feeder) : State := { idle with feeder := idle.feeder.set 0 f }

/-- idle with feeder 1 in a state, its timer run out. -/
def inState (st : FState) : State := withFeeder { Feeder.reset with state := st, timer := some 0 }

/-- A state with the breaker feedback of feeder 1 as given. -/
def withBfb (b : Bfb) (s : State) : State := { s with bfb := s.bfb.set 0 b }

/-- A breaker that reads closed, or open, with no filter running. -/
def reads (closed : Bool) : Bfb := { raw := closed, reported := closed, settled := true, filter := none }

/-- A state with section 1 as given. -/
def withSec (c : Section) (s : State) : State := { s with sec := s.sec.set 0 c }

/-- A state with the live records as given. -/
def withCfg (c : Settings) (s : State) : State := { s with sst := { s.sst with live := c } }

/-- The defaults with partner entry 1 enabled on the UP port, and named by section 1. -/
def partnered : Settings :=
  { Settings.default with
    partners := Settings.default.partners.set 0 { enabled := true, address := 12, port := .up, hops := 1 }
    sections := Settings.default.sections.set 0 { partner := some 0, partnerFeeder := 5, bOnReduced := false } }

/-- idle with that partner, its link as given and the UP port IN_SYNC. -/
def linked (l : LinkRec) : State :=
  withCfg partnered { idle with link := idle.link.set 0 l, upPort := { PortRec.reset with state := .inSync } }

/-- A link that is UP. -/
def upLink : LinkRec := { LinkRec.reset with up := true, mode := some .normal, timeout := some 20, lastSeq := some 7 }

/-- A STATUS telegram of station 12 for station 17. -/
def telegram (seq : Byte) : Telegram :=
  { dest := 17, source := 12, hops := 1, seq := seq
    body := .status .normal 2 [{ feeder := 5, summary := .closed, origin := .none, intertrip := false, testing := false }] }

/-- idle with the UP port as given. -/
def withUp (r : PortRec) : State := { idle with upPort := r }

/-- A port in TESTING with one echo outstanding, its duration run out. -/
def testingPort : PortRec :=
  { PortRec.reset with state := .testing, testLeft := some 0, outstanding := [{ seq := 0, payload := [], sentAt := 0 }] }

/-- A TEST telegram of a station. -/
def testTelegram (source : Byte) : Telegram :=
  { dest := 0, source := source, hops := 0, seq := 0, body := .test (List.replicate 32 0x5A) }

/-- A state with group 1 and its sync as given. -/
def withGroup (r : GroupRec) (y : SyncRec) (s : State) : State := { s with group := s.group.set 0 r, sync := s.sync.set 0 y }

/-- A sync that is LOCKED. -/
def lockedSync : SyncRec := { SyncRec.reset with locked := true, lastCross := some 0 }

/-- A state whose latest record carries a reading of channel c. -/
def withReading (c : Fin 17) (v : Int) (h : Health) (s : State) : State :=
  { s with aqu := { s.aqu with
      latest := { number := 20, readings := s.aqu.latest.readings.set c { value := v, health := h, sat := false } } } }

/-- A state with channel c as given. -/
def withChannel (c : Fin 17) (r : Channel) (s : State) : State :=
  { s with aqu := { s.aqu with channels := s.aqu.channels.set c r } }

/-- A channel after reset. -/
def channel0 : Channel :=
  { health := .good, staleRun := 0, goodRun := 0, held := 0, heldSat := false, converting := true, result := none }

/-- A state with terminal 1 as given. -/
def withTerm (r : Terminal) (s : State) : State := { s with term := s.term.set 0 r }

/-- A terminal that carries RPL_OUT. -/
def rplTerm : Terminal := { Terminal.reset with cfg := { TermCfg.default with mode := .outPushPull, fn := .rplOut } }

/-- A telegram in a transmit queue: an own one for station 12, and one forwarded. -/
def ownItem : Queued := { own := true, telegram := { telegram 1 with dest := 12, source := 17 } }
def forwardedItem : Queued := { own := false, telegram := { telegram 1 with dest := 18 } }

/-- idle with its partner's port sending, and its queue as given. -/
def busyUp (q : List Queued) : State :=
  { linked upLink with
    upPort := { PortRec.reset with
      state := .inSync, sending := some { item := ownItem, afterResync := false }, queue := q } }

/-- A station whose start steps are PENDING at record 16, in START or in SAFE, where every feeder keeps a station trip. -/
def starting (m : Mode) (kept : List Kept) : State :=
  { idle with
    sts := { idle.sts with complete := false, mode := m }
    aqu := { idle.aqu with latest := { idle.aqu.latest with number := 16 } }
    feeder := Vector.replicate 6 { Feeder.reset with kept := if m = .safe then kept ++ [.stationTrip] else kept } }

/-- A station whose start steps are PENDING, with nothing due. -/
def inStart : State := { idle with sts := { idle.sts with complete := false, mode := .start } }

/-- The state a command leaves. -/
def after (c : Instr) (s : State) : State :=
  match exec c s with
  | .next t => t
  | .fault _ => s
  | .refused _ => s

/-- The status of the reply in progress. -/
def statusOf (s : State) : Option Status := s.cmp.reply.map (·.status)

/-- A reply in progress. -/
def ack : Reply := { kind := 0x86, tag := 1, status := .ok, payload := .empty }

-- ===================================================================== how hypotheses are met

/-- Whether an outcome is a next state. -/
def isNext (o : Host.Outcome State Fault Refusal) : Bool :=
  match o with
  | .next _ => true
  | .fault _ => false
  | .refused _ => false

theorem exists_next {o : Host.Outcome State Fault Refusal} (h : isNext o = true) : ∃ t, o = .next t := by
  cases o with
  | next t => exact ⟨t, rfl⟩
  | fault r => cases h
  | refused r => cases h

theorem ready_iff (s : State) :
    s.ready ↔ s.quiet = true ∧ s.cmp.reply = none ∧ s.cmp.restartPending = false ∧ s.sts.present = true := Iff.rfl

theorem idle_ready : idle.ready := by simp only [ready_iff]; decide +kernel

-- ===================================================================== WellFormed

/-- A payload of 513 bytes fits no control frame (R194). -/
theorem test_payload_too_long_ill_formed :
    (Instr.closeFeeder 1 (List.replicate 513 0)).wellFormed = false ∧
    (Instr.closeFeeder 1 (List.replicate 512 0)).wellFormed = true ∧
    (Instr.unknownRequest 0x99 1 (List.replicate 513 0)).wellFormed = false := by decide +kernel

/-- An UNKNOWN_REQUEST with a kind of the catalogue (R200). -/
theorem test_known_kind_ill_formed :
    (Instr.unknownRequest 0x21 1 []).wellFormed = false ∧ (Instr.unknownRequest 0x22 1 []).wellFormed = false ∧
    (Instr.unknownRequest 0x26 1 []).wellFormed = true := by decide +kernel

/-- More characters than the longest frame has (R194, R196). -/
theorem test_discarded_frame_too_long_ill_formed :
    (Instr.controlFrameDiscarded (List.replicate 521 0)).wellFormed = false ∧
    (Instr.controlFrameDiscarded (List.replicate 520 0)).wellFormed = true := by decide +kernel

/-- A frame abandoned before its end has gathered fewer characters than the longest frame has (R195). -/
theorem test_abandoned_frame_too_long_ill_formed :
    (Instr.controlFrameAbandoned (List.replicate 520 0) .missingStopBit).wellFormed = false ∧
    (Instr.controlFrameAbandoned (List.replicate 519 0) .missingStopBit).wellFormed = true := by decide +kernel

-- ===================================================================== worked values of the manual

/-- The characters "123456789". -/
def digits : List Byte := [0x31, 0x32, 0x33, 0x34, 0x35, 0x36, 0x37, 0x38, 0x39]

/-- The CRC-16 over "123456789" (R194). -/
theorem test_crc16_of_digits : crc16 digits = 0x29B1#16 := by decide +kernel

/-- The CRC-32 over "123456789" (R207). -/
theorem test_crc32_of_digits : crc32 digits = 0xFC891918#32 := by decide +kernel

/-- The image is 445 bytes long (R207), and the factory defaults pass their own validation (R209, R210). -/
theorem test_default_image : Settings.default.image.length = 445 ∧
    parseImage Settings.default.image = some Settings.default := by decide +kernel

/-- A steady 1000 A can show as a filtered 997 A, and a steady −1000 A as −997 A (R23). -/
theorem test_filter_lag :
    filterStep 996 1000 = 997 ∧ filterStep 997 1000 = 997 ∧ filterStep (-996) (-1000) = -997 ∧
    filterStep (-997) (-1000) = -997 := by decide +kernel

-- ===================================================================== witnesses: the machine and acquisition

/-- The three resets. -/
theorem witness_EveryResetLeavesResetState :
    (Instr.powerOn 9 = .powerOn 9 ∧ RestartCause.powerOn = .powerOn) ∧
    (Instr.resetPin 255 = .resetPin 255 ∧ RestartCause.resetPin = .resetPin) ∧
    (let s := { idle with cmp := { idle.cmp with reply := some ack, restartPending := true } }
     s.quiet = true ∧ s.cmp.reply = some ack ∧ s.cmp.restartPending = true) := by decide +kernel

/-- idle with a full event queue, the oldest of a supervision expiry. -/
def full : State := { idle with events := List.replicate 256 (idle.event .sts 0 .hostAbsent 8 0 .none) }

theorem witness_QueueAndBufferBoundsKept :
    (EventsFit full ∧ ∃ t, step { full with pending := [.hostSupervisionExpiry] } = .next t) ∧
    (OneLiveBuffer idle ∧ ∃ t, step { idle with pending := [.enableCapture 1 []] } = .next t) ∧
    (QueuesFit (busyUp (List.replicate 4 forwardedItem)) ∧
      ∃ t, step { busyUp (List.replicate 4 forwardedItem) with pending := [.telegramPeriod] } = .next t) := by
  refine ⟨⟨?_, exists_next (by decide +kernel)⟩, ⟨?_, exists_next (by decide +kernel)⟩,
    ⟨?_, exists_next (by decide +kernel)⟩⟩
  · simp only [EventsFit]; decide +kernel
  · simp only [OneLiveBuffer]; decide +kernel
  · intro p; cases p <;> decide +kernel

/-- Values at both ends of a range: UB 0 and 1500 V. -/
theorem witness_ChannelRangesKept :
    ∃ v : Int, InRange 0 0 ∧ InRange 0 1500 ∧ ¬ InRange 0 1501 ∧ InRange 4 (-8000) ∧
      ChannelsInRange { State.reset with pending := [.conversionComplete 0 { frame := 1, milli := v }] } ∧
      ∃ t, step { State.reset with pending := [.conversionComplete 0 { frame := 1, milli := v }] } = .next t := by
  refine ⟨1600000, by simp only [InRange]; decide +kernel, by simp only [InRange]; decide +kernel,
    by simp only [InRange]; decide +kernel, by simp only [InRange]; decide +kernel, ?_,
    exists_next (by decide +kernel)⟩
  have h : ∀ c : Fin 17, State.reset.aqu.channels[c].result = none ∧
      ((channelRange c).1 ≤ State.reset.aqu.channels[c].held ∧
        State.reset.aqu.channels[c].held ≤ (channelRange c).2) ∧
      ((channelRange c).1 ≤ State.reset.aqu.latest.readings[c].value ∧
        State.reset.aqu.latest.readings[c].value ≤ (channelRange c).2) := by decide +kernel
  intro c
  obtain ⟨hr, hh, hv⟩ := h c
  refine ⟨hh, fun r hr' => ?_, hv⟩
  rw [show State.reset.aqu.channels[c].result = none from hr] at hr'
  cases hr'

theorem witness_RolesKept :
    RolesFollow { inState .open with pending := [.closeFeeder 1 [1]] } ∧
    ∃ t, step { inState .open with pending := [.closeFeeder 1 [1]] } = .next t := by
  refine ⟨?_, exists_next (by decide +kernel)⟩
  simp only [RolesFollow]; decide +kernel

theorem witness_StationConsistencyKept :
    (StationConsistent { idle with pending := [.runStation 1 []] } ∧
      ∃ t, step { idle with pending := [.runStation 1 []] } = .next t) ∧
    (StationConsistent { safe true with pending := [.resumeStation 1 []] } ∧
      ∃ t, step { safe true with pending := [.resumeStation 1 []] } = .next t) ∧
    (StartHolds (starting .start []) ∧ ∃ t, step { starting .start [] with pending := [.startComplete] } = .next t) ∧
    (StartHolds (starting .safe []) ∧ (starting .safe []).sts.complete = false ∧
      ∃ t, step { starting .safe [] with pending := [.setVoltage 1 [3, 0]] } = .next t) := by
  refine ⟨⟨?_, exists_next (by decide +kernel)⟩, ⟨?_, exists_next (by decide +kernel)⟩,
    ⟨?_, exists_next (by decide +kernel)⟩, ?_, by decide +kernel, exists_next (by decide +kernel)⟩ <;>
  · simp only [StationConsistent, StartHolds]; decide +kernel

/-- A frame with a completed and an abandoned conversion, of channels that are FAILED and that are not; 62 and 63
completed conversions in a row stand below and at the last before restoration. -/
theorem witness_FrameTriggerPublishesRecord :
    (State.reset.quiet = true ∧ State.reset.aqu.clock ≠ .good) ∧
    (let s := withChannel 0 { channel0 with result := some (1500, true) }
      (withChannel 1 { channel0 with result := some (-300, false), health := .failed, goodRun := 62 }
        (withChannel 2 { channel0 with result := some (0, false), health := .failed, goodRun := 63 }
          (withChannel 3 { channel0 with staleRun := 3 } (withChannel 16 { channel0 with health := .failed } idle))))
     s.quiet = true ∧ s.aqu.clock = .good ∧
     s.aqu.channels[(0 : Fin 17)].result = some (1500, true) ∧ s.aqu.channels[(0 : Fin 17)].health ≠ .failed ∧
     s.aqu.channels[(1 : Fin 17)].result = some (-300, false) ∧ s.aqu.channels[(1 : Fin 17)].health = .failed ∧
     s.aqu.channels[(2 : Fin 17)].result = some (0, false) ∧ s.aqu.channels[(2 : Fin 17)].health = .failed ∧
     s.aqu.channels[(3 : Fin 17)].result = none ∧ s.aqu.channels[(3 : Fin 17)].health ≠ .failed ∧
     s.aqu.channels[(16 : Fin 17)].result = none ∧ s.aqu.channels[(16 : Fin 17)].health = .failed) := by
  decide +kernel

theorem witness_ConversionHeldWithinRange :
    (idle.quiet = true ∧ idle.aqu.channels[(0 : Fin 17)].converting = false) ∧
    ((withChannel 0 channel0 idle).quiet = true ∧ (withChannel 0 channel0 idle).aqu.nextFrame = 1 ∧ (0 : Word32) ≠ 1 ∧
      (withChannel 0 channel0 idle).aqu.channels[(0 : Fin 17)].converting = true ∧
      (1500999 : Int).tdiv 1000 = (channelRange 0).2 ∧ (channelRange 0).2 < (1501000 : Int).tdiv 1000 ∧
      (-999 : Int).tdiv 1000 = (channelRange 0).1 ∧ (-1000 : Int).tdiv 1000 < (channelRange 0).1) := by decide +kernel

theorem witness_ChannelChangesHandedOn :
    (∀ c : Fin 17,
      let s := withChannel c { channel0 with staleRun := 4 } idle
      let t := withChannel c { channel0 with staleRun := 4 } (starting .start [])
      s.aqu.channels[c].staleRun = 4 ∧ s.aqu.channels[c].health ≠ .failed ∧ s.sts.complete = true ∧
      t.aqu.channels[c].staleRun = 4 ∧ t.aqu.channels[c].health ≠ .failed ∧ t.sts.complete = false) ∧
    (∀ c : Fin 17,
      let s := withChannel c { channel0 with goodRun := 64, health := .failed } idle
      s.aqu.channels[c].goodRun = 64 ∧ s.aqu.channels[c].health = .failed) := by decide +kernel

theorem witness_WindowEndAndTimeRunCounts :
    (State.reset.quiet = true ∧ State.reset.aqu.clock = .unproven) ∧ (idle.quiet = true ∧ idle.aqu.clock = .good) ∧
    (let s := { withFeeder { Feeder.reset with timer := some 0 } with
        subUs := 999
        group := idle.group.set 0 { GroupRec.reset with delay := some 1 }
        link := idle.link.set 0 { LinkRec.reset with timeout := some 20 }
        sync := idle.sync.set 0 { SyncRec.reset with crossTimer := some 40000 }
        sts := { idle.sts with hold := some 10000 } }
     s.subUs < 1000 ∧ s.feeder[(0 : Fin 6)].timer = some 0 ∧ s.feeder[(1 : Fin 6)].timer = none ∧
     s.group[(0 : Fin 2)].delay = some 1 ∧ s.link[(0 : Fin 4)].timeout = some 20 ∧ s.sts.supTimer = some 8000 ∧
     s.sts.hold = some 10000 ∧ s.sync[(0 : Fin 2)].crossTimer = some 40000) := by decide +kernel

theorem witness_ClockStateChanges :
    (let s := { feeding with aqu := { feeding.aqu with badWindows := 10 } }
     s.clockFailDue = true ∧ s.sts.clockFail = false ∧ s.sts.mode ≠ .safe ∧
     s.aqu.channels[(0 : Fin 17)].health ≠ .failed) ∧
    (let s := withChannel 0 { channel0 with health := .failed }
      { idle with aqu := { idle.aqu with stopped := true } }
     s.clockFailDue = true ∧ s.sts.clockFail = false ∧ s.aqu.channels[(0 : Fin 17)].health = .failed) ∧
    (let s := { State.reset with aqu := { State.reset.aqu with goodWindows := 1000 }, straps := 250 }
     s.aqu.clock ≠ .good ∧ s.aqu.goodWindows = 1000 ∧ s.sts.address = none ∧
     ¬ (s.straps.toNat = 0 ∨ 250 < s.straps.toNat)) ∧
    (let s := { State.reset with aqu := { State.reset.aqu with goodWindows := 1000 }, straps := 251 }
     s.aqu.clock ≠ .good ∧ s.aqu.goodWindows = 1000 ∧ s.sts.address = none ∧ 250 < s.straps.toNat) := by decide +kernel

-- ===================================================================== witnesses: feeders

theorem witness_FilterRunsOnCountedFrames :
    (State.reset.reading (chIF 0)).health = .stale ∧
    (let s := withReading (chIF 0) 8000 .good { idle with disc := idle.disc.set 0 { Disc.reset with history := [4, 3, 2, 1] } }
     (s.reading (chIF 0)).health ≠ .stale ∧ s.disc[(0 : Fin 6)].history[3]? = some 1) ∧
    (let s := withReading (chIF 0) (-8000) .good idle
     (s.reading (chIF 0)).health ≠ .stale ∧ s.disc[(0 : Fin 6)].history[3]? = none) := by decide +kernel

/-- Each clause on the trip handed, at the level or the time that decides it. -/
theorem witness_ElementsTripInOrder :
    let c := GroupCfg.defaultB
    let r (v : Int) : Reading := { value := v, health := .good, sat := false }
    let o (d : Disc) (v : Int) := d.frameStep .closed .b c (r v) 5
    (({ Disc.reset with tripGiven := true } : Disc).tripGiven = true) ∧
    ((o { Disc.reset with imaxRun := 1 } 4500).1.imaxRun = 2) ∧
    (let d := { Disc.reset with rising := true, base := 0, elapsed := 7, history := [1200, 1100, 1000, 900]
                                filtered := 1200 }
     (o d 1600).1.imaxRun ≠ 2 ∧ (o d 1600).1.rising = true ∧
     (o d 1600).1.rise = some 1300 ∧ (c.diSet : Int) ≤ 1300 ∧ 4 * c.diTime ≤ (o d 1600).1.elapsed) ∧
    (let d := { Disc.reset with rising := true, base := 2000, elapsed := 7, history := [2400, 2300, 2200, 2100]
                                filtered := 2400, dtCount := 7999 }
     (o d 3200).1.imaxRun ≠ 2 ∧ (o d 3200).1.rising = true ∧ (o d 3200).1.rise = some 600 ∧ ¬ (c.diSet : Int) ≤ 600 ∧
     4 * c.tDt ≤ (o d 3200).1.dtCount) ∧
    (let d := { Disc.reset with filtered := 2600, dtCount := 7999 }
     (o d 2600).1.imaxRun ≠ 2 ∧ (o d 2600).1.rising = false ∧ (o d 2600).1.dtCount = 4 * c.tDt) ∧
    (let d := { Disc.reset with filtered := 2600, dtCount := 7998 }
     (o d 2600).1.imaxRun ≠ 2 ∧ (o d 2600).1.rising = false ∧ (o d 2600).1.dtCount < 4 * c.tDt) := by
  and_intros <;> decide +kernel

theorem witness_OwnTripOpensFeeder :
    ((inState .open).feeder[(0 : Fin 6)].state ≠ .closed ∧ (inState .open).feeder[(0 : Fin 6)].state ≠ .closing) ∧
    (inState .closed).feeder[(0 : Fin 6)].state = .closed ∧ (inState .closing).feeder[(0 : Fin 6)].state = .closing := by
  decide +kernel

theorem witness_FeederTimersExpire :
    (let s := { idle with disc := idle.disc.set 0 { Disc.reset with windowOpen := true } }
     s.disc[(0 : Fin 6)].windowOpen = true ∧ s.disc[(0 : Fin 6)].window = 0) ∧
    ((inState .closed).quiet = true ∧ (inState .closed).feeder[(0 : Fin 6)].state = .closed ∧
      (inState .closed).feeder[(0 : Fin 6)].timer = some 0) ∧
    (let s := withFeeder { Feeder.reset with state := .lineTest, phase := some .settle, timer := some 0 }
     s.quiet = true ∧ s.feeder[(0 : Fin 6)].state = .lineTest ∧ s.feeder[(0 : Fin 6)].phase = some .settle ∧
     s.feeder[(0 : Fin 6)].timer = some 0) ∧
    ((inState .closing).quiet = true ∧ (inState .closing).feeder[(0 : Fin 6)].state = .closing ∧
      (inState .closing).feeder[(0 : Fin 6)].timer = some 0 ∧ (inState .closing).bfb[(0 : Fin 6)].reported = false) ∧
    (idle.quiet = true ∧ idle.feeder[(0 : Fin 6)].timer ≠ some 0) := by
  decide +kernel

theorem witness_BreakerFailureTakesStationSafe :
    let s := withBfb (reads true) { feeding with feeder := (inState .opening).feeder }
    s.quiet = true ∧ s.feeder[(0 : Fin 6)].state = .opening ∧ s.feeder[(0 : Fin 6)].timer = some 0 ∧
    s.bfb[(0 : Fin 6)].reported = true ∧ s.sts.complete = true ∧ s.sts.mode ≠ .safe ∧
    s.sts.breakerFail[(0 : Fin 6)] = false := by decide +kernel

/-- The first attempt and the last one that N_AR, 2, leaves. -/
theorem witness_OpeningCompletesToDeadTime :
    ∀ n : Fin 2,
      let f := { Feeder.reset with state := .opening, timer := some 0, dest := some .decide, element := .deltaI, attempt := n.val }
      let s := withBfb (reads false) (withFeeder f)
      let t := withBfb { reads true with raw := false, filter := some 0 } (withFeeder { f with timer := some 100 })
      let exhausted := withBfb (reads false) (withFeeder { f with attempt := (s.general 0).nAr })
      let imax := withBfb (reads false) (withFeeder { f with element := .imax })
      (exhausted.quiet = true ∧ exhausted.feeder[(0 : Fin 6)].dest = some .decide ∧
        (exhausted.general 0).nAr ≤ exhausted.feeder[(0 : Fin 6)].attempt) ∧
      (imax.quiet = true ∧ imax.feeder[(0 : Fin 6)].element = .imax ∧ (imax.general 0).arOnImax = false) ∧
      (s.quiet = true ∧ s.feeder[(0 : Fin 6)].state = .opening ∧ s.feeder[(0 : Fin 6)].timer = some 0 ∧
        s.feeder[(0 : Fin 6)].dest = some .decide ∧ s.feeder[(0 : Fin 6)].element ≠ .imax ∧
        s.feeder[(0 : Fin 6)].attempt < (s.general 0).nAr ∧ s.sts.present = true ∧ s.sts.complete = true ∧
        s.bfb[(0 : Fin 6)].reported = false) ∧
      (t.quiet = true ∧ t.feeder[(0 : Fin 6)].attempt < (t.general 0).nAr ∧ t.bfb[(0 : Fin 6)].filter = some 0 ∧
        t.bfb[(0 : Fin 6)].settled = true ∧ t.bfb[(0 : Fin 6)].raw = false ∧
        t.sts.breakerFail[(0 : Fin 6)] = false) := by decide +kernel

/-- A partner that tests, one of lower address that reads OPEN with origin OWN, and none. -/
theorem witness_DeadTimeElectsRole :
    let dead (c : Section) : State := withSec c { linked upLink with feeder := (inState .deadTime).feeder }
    (let s := dead { Section.reset with summary := .testing }
     s.quiet = true ∧ s.feeder[(0 : Fin 6)].state = .deadTime ∧ s.feeder[(0 : Fin 6)].timer = some 0 ∧
     s.lineLive 0 = false ∧ s.cfg.sections[(0 : Fin 6)].partner = some 0 ∧ s.cfg.partners[(0 : Fin 4)].enabled = true ∧
     s.link[(0 : Fin 4)].up = true ∧ s.sec[(0 : Fin 6)].summary = .testing) ∧
    (let s := dead { Section.reset with summary := .open, porigin := .own }
     s.quiet = true ∧ s.lineLive 0 = false ∧ s.sec[(0 : Fin 6)].summary = .open ∧
     s.sec[(0 : Fin 6)].porigin = .own ∧ s.sts.address = some 17 ∧
     s.cfg.partners[(0 : Fin 4)].address < (17 : Byte).toNat) ∧
    (let s := inState .deadTime
     s.quiet = true ∧ s.feeder[(0 : Fin 6)].state = .deadTime ∧ s.feeder[(0 : Fin 6)].timer = some 0 ∧
     s.lineLive 0 = false ∧ s.sec[(0 : Fin 6)].summary ≠ .testing ∧ s.cfg.sections[(0 : Fin 6)].partner = none ∧
     s.bfb[(0 : Fin 6)].reported = false ∧ s.feeder[(0 : Fin 6)].lost = false ∧
     s.aqu.channels[chUL 0].health ≠ .failed) := by decide +kernel

theorem witness_LiveLineClosesRetryTests :
    (let live (st : FState) : State :=
       withSec { Section.reset with summary := .closed }
         (withFeeder { Feeder.reset with state := st, timer := some 0, liveRun := 400 })
     (live .deadTime).quiet = true ∧ (live .deadTime).feeder[(0 : Fin 6)].state = .deadTime ∧
     (live .deadTime).feeder[(0 : Fin 6)].timer = some 0 ∧ (live .deadTime).feeder[(0 : Fin 6)].liveRun = 400 ∧
     (live .deadTime).sec[(0 : Fin 6)].summary = .closed ∧ (live .waitPartner).feeder[(0 : Fin 6)].state = .waitPartner ∧
     (live .waitPartner).feeder[(0 : Fin 6)].liveRun = 400 ∧ (live .waitPartner).sec[(0 : Fin 6)].summary = .closed) ∧
    (let s := withFeeder { Feeder.reset with state := .lineTest, phase := some .retry, timer := some 0, invalid := 2 }
     s.quiet = true ∧ s.feeder[(0 : Fin 6)].timer = some 0 ∧ s.bfb[(0 : Fin 6)].reported = false ∧
     s.feeder[(0 : Fin 6)].lost = false ∧ s.aqu.channels[chUL 0].health ≠ .failed ∧
     s.sec[(0 : Fin 6)].summary ≠ .testing ∧ s.feeder[(0 : Fin 6)].state = .lineTest ∧
     s.feeder[(0 : Fin 6)].phase = some .retry) ∧
    ((inState .waitPartner).quiet = true ∧ (inState .waitPartner).feeder[(0 : Fin 6)].state = .waitPartner ∧
      (inState .waitPartner).feeder[(0 : Fin 6)].timer = some 0 ∧
      (inState .waitPartner).bfb[(0 : Fin 6)].reported = false ∧ (inState .waitPartner).feeder[(0 : Fin 6)].lost = false ∧
      (inState .waitPartner).aqu.channels[chUL 0].health ≠ .failed ∧
      (inState .waitPartner).sec[(0 : Fin 6)].summary ≠ .testing) := by decide +kernel

/-- With RT 20000 mΩ and UB 780 V, UL 70 V gives 1971 mΩ and 71 V gives 2002 mΩ; RLT_MIN is 2000 mΩ. UB at UB_LT_MIN,
600 V, with UL above it gives the largest value. -/
theorem witness_LineTestWindowDecides :
    let s (ul ub : Nat) (manual : Bool) : State :=
      withFeeder { Feeder.reset with
        state := .lineTest, phase := some .window, count := 64, sumUl := 64 * ul, sumUb := 64 * ub, manual := manual }
    ((s 70 780 true).feeder[(0 : Fin 6)].state = .lineTest ∧ (s 70 780 true).feeder[(0 : Fin 6)].phase = some .window ∧
      (s 70 780 true).feeder[(0 : Fin 6)].count = 64 ∧
      (s 70 780 true).station.ubLtMin ≤ (s 70 780 true).feeder[(0 : Fin 6)].sumUb / 64) ∧
    ((s 70 780 true).general 0).rt * 70 / (780 - 70) < ((s 70 780 true).general 0).rltMin ∧
    ((s 71 780 true).general 0).rltMin ≤ ((s 71 780 true).general 0).rt * 71 / (780 - 71) ∧
    ((s 600 600 false).station.ubLtMin = 600 ∧ ((s 600 600 false).general 0).rltMin ≤ 65535) ∧
    (s 70 780 true).feeder[(0 : Fin 6)].manual = true ∧ (s 70 780 false).feeder[(0 : Fin 6)].manual = false ∧
    (s 70 780 false).feeder[(0 : Fin 6)].attempt < (s 70 780 false).effectiveLimit 0 ∧
    (s 70 599 true).feeder[(0 : Fin 6)].sumUb / 64 < (s 70 599 true).station.ubLtMin ∧
    (∀ n ∈ [1, 2], ∀ closed : Bool,
      let t := withBfb (reads closed) (withFeeder { (s 70 599 false).feeder[(0 : Fin 6)] with invalid := n, attempt := 3 })
      t.feeder[(0 : Fin 6)].invalid = n ∧ t.bfb[(0 : Fin 6)].reported = closed ∧
      (t.general 0).nAr ≤ t.feeder[(0 : Fin 6)].attempt) := by decide +kernel

/-- A released breaker whose filter has run out, and one asserted. -/
def releasing : Bfb := { reads true with raw := false, filter := some 0 }
def asserting : Bfb := { reads false with raw := true, filter := some 0 }

theorem witness_BreakerFeedbackReported :
    (idle.quiet = true ∧ idle.bfb[(0 : Fin 6)].raw = false ∧ idle.bfb[(0 : Fin 6)].raw ≠ true ∧
      idle.bfb[(0 : Fin 6)].settled = false ∧ idle.bfb[(0 : Fin 6)].filter ≠ some 0) ∧
    (let s := withBfb { Bfb.reset true with filter := some 0 } idle
     s.quiet = true ∧ s.bfb[(0 : Fin 6)].settled = false ∧ s.bfb[(0 : Fin 6)].filter = some 0) ∧
    ((withBfb (reads false) idle).quiet = true ∧ (withBfb (reads false) idle).bfb[(0 : Fin 6)].raw ≠ true ∧
      (withBfb (reads false) idle).bfb[(0 : Fin 6)].settled = true) ∧
    (let s := withBfb asserting (inState .closing)
     s.quiet = true ∧ s.sts.complete = true ∧ s.feeder[(0 : Fin 6)].state = .closing ∧
     s.bfb[(0 : Fin 6)].filter = some 0 ∧ s.bfb[(0 : Fin 6)].settled = true ∧ s.bfb[(0 : Fin 6)].raw = true) ∧
    (∀ d ∈ [Dest.waitPartner, .open, .blocked, .lockedOut],
      let f := { Feeder.reset with state := .opening, dest := some d, timer := some 0 }
      (let s := withBfb (reads false) (withFeeder f)
       s.quiet = true ∧ s.feeder[(0 : Fin 6)].state = .opening ∧ s.sts.complete = true ∧
       s.feeder[(0 : Fin 6)].timer = some 0 ∧ s.bfb[(0 : Fin 6)].reported = false ∧
       s.feeder[(0 : Fin 6)].dest = some d) ∧
      (let s := withBfb releasing (withFeeder f)
       s.quiet = true ∧ s.bfb[(0 : Fin 6)].filter = some 0 ∧ s.bfb[(0 : Fin 6)].settled = true ∧
       s.bfb[(0 : Fin 6)].raw = false ∧ s.sts.breakerFail[(0 : Fin 6)] = false ∧
       s.feeder[(0 : Fin 6)].dest = some d)) ∧
    (let f := { Feeder.reset with state := .opening, dest := some .waitPartner, timer := some 0 }
     let s : State := { linked LinkRec.reset with feeder := (withFeeder f).feeder }
     idle.cfg.sections[(0 : Fin 6)].partner = none ∧ s.quiet = true ∧ s.cfg.sections[(0 : Fin 6)].partner = some 0 ∧
     s.cfg.partners[(0 : Fin 4)].enabled = true ∧ s.link[(0 : Fin 4)].up = false ∧ s.feeder[(0 : Fin 6)].lost = false ∧
     s.aqu.channels[chUL 0].health ≠ .failed ∧ s.sec[(0 : Fin 6)].summary ≠ .testing) ∧
    (let f := { Feeder.reset with state := .opening, dest := some .waitPartner, timer := some 0, lost := true }
     let s : State := { linked LinkRec.reset with feeder := (withFeeder f).feeder }
     s.quiet = true ∧ s.feeder[(0 : Fin 6)].manual = false ∧ s.feeder[(0 : Fin 6)].lost = true) ∧
    (let s := withBfb releasing (inState .closed)
     s.quiet = true ∧ s.sts.complete = true ∧ s.bfb[(0 : Fin 6)].filter = some 0 ∧ s.bfb[(0 : Fin 6)].settled = true ∧
     s.bfb[(0 : Fin 6)].raw = false ∧ s.feeder[(0 : Fin 6)].state = .closed ∧
     s.sts.breakerFail[(0 : Fin 6)] = false) ∧
    (let s := withBfb releasing { safe false with
        feeder := (withFeeder { Feeder.reset with state := .lockedOut, lockCause := .bf }).feeder
        sts := { (safe false).sts with breakerFail := (safe false).sts.breakerFail.set 0 true } }
     s.quiet = true ∧ s.sts.complete = true ∧ s.bfb[(0 : Fin 6)].filter = some 0 ∧ s.bfb[(0 : Fin 6)].settled = true ∧
     s.bfb[(0 : Fin 6)].raw = false ∧ s.feeder[(0 : Fin 6)].state = .lockedOut ∧
     s.feeder[(0 : Fin 6)].lockCause = .bf) ∧
    (∀ st ∈ [FState.open, .deadTime, .waitPartner, .lockedOut, .lineTest, .blocked],
      let s := withBfb asserting (inState st)
      s.quiet = true ∧ s.sts.complete = true ∧ s.bfb[(0 : Fin 6)].filter = some 0 ∧ s.bfb[(0 : Fin 6)].settled = true ∧
      s.bfb[(0 : Fin 6)].raw = true ∧ s.sts.mode ≠ .safe ∧ s.feeder[(0 : Fin 6)].state = st) ∧
    (∀ st ∈ [FState.open, .blocked, .lockedOut],
      let s := withBfb asserting { safe true with feeder := (inState st).feeder }
      s.quiet = true ∧ s.sts.complete = true ∧ s.bfb[(0 : Fin 6)].filter = some 0 ∧ s.bfb[(0 : Fin 6)].settled = true ∧
      s.bfb[(0 : Fin 6)].raw = true ∧ s.sts.mode = .safe ∧ s.feeder[(0 : Fin 6)].state = st) := by
  and_intros <;> decide +kernel

-- ===================================================================== witnesses: feeder requests and sections

theorem witness_RecordsReadAsTheyStand : idle.ready := idle_ready

theorem witness_CloseFeederTakenOrRefused :
    let test (manualLt : Bool) : State :=
      withCfg { Settings.default with general := Vector.replicate 6 { FeederCfg.default with manualLt := manualLt } } idle
    let live := withSec { Section.reset with summary := .closed } (withFeeder { Feeder.reset with liveRun := 400 })
    ((inState .closed).ready ∧ (inState .closed).feeder[(0 : Fin 6)].state ≠ .open) ∧
    ((safe true).ready ∧ (safe true).feeder[(0 : Fin 6)].state = .open ∧ (safe true).sts.mode = .safe) ∧
    (live.ready ∧ live.feeder[(0 : Fin 6)].state = .open ∧ live.sts.complete = true ∧ live.sts.mode = .standby ∧
      live.feeder[(0 : Fin 6)].liveRun = 400 ∧ live.sec[(0 : Fin 6)].summary = .closed) ∧
    ((test false).ready ∧ (test false).feeder[(0 : Fin 6)].state = .open ∧ (test false).sts.complete = true ∧
      (test false).sts.mode = .standby ∧ (test false).lineLive 0 = false ∧ ((test false).general 0).manualLt = false) ∧
    ((test true).ready ∧ (test true).feeder[(0 : Fin 6)].state = .open ∧ (test true).sts.complete = true ∧
      (test true).sts.mode = .standby ∧ (test true).lineLive 0 = false ∧ ((test true).general 0).manualLt = true ∧
      (test true).bfb[(0 : Fin 6)].reported = false ∧ (test true).aqu.channels[chUL 0].health ≠ .failed ∧
      (test true).sec[(0 : Fin 6)].summary ≠ .testing) := by
  simp only [ready_iff]; decide +kernel

/-- One state for each feeder state. -/
theorem witness_OpenBlockUnblockFeeder :
    (∀ st ∈ [FState.open, .closing, .closed, .opening, .deadTime, .lineTest, .waitPartner, .lockedOut, .blocked],
      (inState st).ready ∧ (inState st).sts.complete = true ∧ (inState st).feeder[(0 : Fin 6)].state = st) ∧
    (let s := withFeeder { Feeder.reset with state := .opening, dest := some .decide }
     s.ready ∧ s.sts.complete = true ∧ s.feeder[(0 : Fin 6)].state = .opening ∧
     s.feeder[(0 : Fin 6)].dest ≠ some .lockedOut) ∧
    (let s := withFeeder { Feeder.reset with state := .opening, dest := some .lockedOut }
     s.ready ∧ s.feeder[(0 : Fin 6)].state = .opening ∧ s.feeder[(0 : Fin 6)].dest = some .lockedOut) ∧
    (let s := withFeeder { Feeder.reset with state := .blocked, blockCause := .request }
     s.ready ∧ s.feeder[(0 : Fin 6)].state = .blocked ∧ s.feeder[(0 : Fin 6)].blockCause = .request ∧
     s.sts.mode ≠ .start ∧ s.sts.mode ≠ .safe) ∧
    (inStart.ready ∧ inStart.sts.complete = false) := by
  simp only [ready_iff]; decide +kernel

theorem witness_ResetFeederByBreaker :
    let locked (c : LockCause) : State := withFeeder { Feeder.reset with state := .lockedOut, lockCause := c }
    let taken (s : State) : Prop := s.sts.complete = true ∧ s.feeder[(0 : Fin 6)].state = .lockedOut ∧
      s.feeder[(0 : Fin 6)].lockCause = .arExhausted
    ((locked .bf).ready ∧ (withBfb (reads true) (locked .bf)).bfb[(0 : Fin 6)].reported = true ∧
      (withBfb (reads true) (locked .bf)).feeder[(0 : Fin 6)].lockCause = .bf) ∧
    (idle.ready ∧ idle.feeder[(0 : Fin 6)].state ≠ .lockedOut) ∧
    (let s : State := { locked .arExhausted with sts := (safe true).sts }
     s.ready ∧ taken s ∧ s.sts.mode = .safe) ∧
    ((locked .arExhausted).ready ∧ taken (locked .arExhausted) ∧ (locked .arExhausted).sts.mode ≠ .safe ∧
      (locked .arExhausted).bfb[(0 : Fin 6)].reported = false) ∧
    (let s := withBfb (reads true) (locked .arExhausted)
     s.ready ∧ taken s ∧ s.sts.mode ≠ .safe ∧ s.bfb[(0 : Fin 6)].reported = true) := by
  simp only [ready_iff]; decide +kernel

/-- A section that becomes DOUBLE, one that stays SINGLE, and one that falls to SINGLE. -/
theorem witness_FeedingConditionReevaluated :
    let fed := withSec { Section.reset with summary := .closed } (linked upLink)
    let unfed := withSec { Section.reset with double := true } (linked LinkRec.reset)
    (fed.reevaluate 0).sec[(0 : Fin 6)].double ≠ fed.sec[(0 : Fin 6)].double ∧
    (idle.reevaluate 0).sec[(0 : Fin 6)].double = idle.sec[(0 : Fin 6)].double ∧
    (unfed.reevaluate 0).sec[(0 : Fin 6)].double ≠ unfed.sec[(0 : Fin 6)].double := by decide +kernel

-- ===================================================================== witnesses: neighbour links

/-- The longest telegrams: six entries, and a TEST telegram. -/
theorem witness_TelegramRoundTrip :
    let e : Entry := { feeder := 6, summary := .locked, origin := .intertrip, intertrip := true, testing := true }
    let t : Telegram := { dest := 250, source := 1, hops := 2, seq := 255, body := .status .safe 2 (List.replicate 6 e) }
    t.sendable ∧ (testTelegram 12).sendable ∧ (telegram 0).sendable := by
  simp only [Telegram.sendable, testTelegram, telegram]; decide +kernel

theorem witness_TelegramJudged :
    ((withUp { PortRec.reset with disabled := true }).quiet = true ∧
      ((withUp { PortRec.reset with disabled := true }).port .up).disabled = true) ∧
    ((withUp { PortRec.reset with undecodable := 7 }).quiet = true ∧ decodeTelegram [] = none ∧
      ((withUp { PortRec.reset with undecodable := 7 }).port .up).state ≠ .testing) ∧
    ((withUp testingPort).quiet = true ∧ ((withUp testingPort).port .up).state = .testing ∧
      ((withUp testingPort).port .up).outstanding = { seq := 0, payload := [], sentAt := 0 } :: []) ∧
    (∀ last ∈ [none, some (7 : Byte)], ∀ seq ∈ [(7 : Byte), 8, 9],
      let s := linked { LinkRec.reset with lastSeq := last, upCount := 2 }
      let t := telegram seq
      s.quiet = true ∧ (s.port .up).disabled = false ∧ (s.port .up).state = .inSync ∧ s.sts.complete = true ∧
      decodeTelegram t.bytes = some t ∧ s.sts.address = some t.dest ∧ s.cfg.partners[(0 : Fin 4)].enabled = true ∧
      s.cfg.partners[(0 : Fin 4)].port = .up ∧ s.cfg.partners[(0 : Fin 4)].address = t.source.toNat ∧
      s.link[(0 : Fin 4)].up = false ∧ (∀ i : Fin 4, i ≠ 0 → s.cfg.partners[i].enabled = false) ∧
      s.link[(0 : Fin 4)].lastSeq = last) ∧
    (let s := linked LinkRec.reset
     let t := { telegram 1 with source := 13 }
     decodeTelegram t.bytes = some t ∧ s.sts.address = some t.dest ∧
     ∀ j : Fin 4, s.cfg.partners[j].enabled = true → s.cfg.partners[j].port = .up →
       s.cfg.partners[j].address ≠ t.source.toNat) ∧
    (let t := { telegram 1 with source := 17 }
     decodeTelegram t.bytes = some t ∧ (linked LinkRec.reset).sts.address = some t.dest ∧
     (linked LinkRec.reset).sts.address = some t.source ∧
     (linked LinkRec.reset).sts.address ≠ some (telegram 1).source) := by
  and_intros <;> decide +kernel

theorem witness_AcceptedTelegramWritten :
    (let s := linked { LinkRec.reset with upCount := 3, held := some (telegram 9) }
     s.cfg.partners[(0 : Fin 4)].enabled = true ∧ s.link[(0 : Fin 4)].up = false ∧ s.link[(0 : Fin 4)].upCount = 3 ∧
     s.link[(0 : Fin 4)].held = some (telegram 9)) ∧
    (let s := linked upLink
     s.cfg.partners[(0 : Fin 4)].enabled = true ∧ s.quiet = true ∧ s.link[(0 : Fin 4)].up = true ∧
     (s.port .up).disabled = false ∧ (s.port .up).state = .inSync ∧ s.sts.complete = true ∧
     decodeTelegram (telegram 8).bytes = some (telegram 8) ∧ s.sts.address = some (telegram 8).dest ∧
     s.cfg.partners[(0 : Fin 4)].port = .up ∧ s.cfg.partners[(0 : Fin 4)].address = (telegram 8).source.toNat ∧
     s.sts.address ≠ some (telegram 8).source ∧
     (∀ i : Fin 4, i ≠ 0 → s.cfg.partners[i].enabled = false) ∧ s.link[(0 : Fin 4)].lastSeq ≠ some (telegram 8).seq) ∧
    (let e : Entry := { feeder := 5, summary := .open, origin := .own, intertrip := true, testing := false }
     let t : Telegram := { telegram 8 with body := .status .reduced 1 [e] }
     let s : State := { linked upLink with feeder := (inState .closed).feeder }
     s.quiet = true ∧ decodeTelegram t.bytes = some t ∧ s.cfg.sections[(0 : Fin 6)].partner = some 0 ∧
     [e].find? (fun e => e.feeder == s.cfg.sections[(0 : Fin 6)].partnerFeeder) = some e ∧ e.intertrip = true ∧
     s.sec[(0 : Fin 6)].itTelegram = false ∧ s.sec[(0 : Fin 6)].itTerminal = false ∧
     s.feeder[(0 : Fin 6)].state = .closed) ∧
    (∀ st ∈ [FState.closed, .closing, .open, .lineTest],
      let s := withSec { Section.reset with itTerminal := true } (inState st)
      s.sec[(0 : Fin 6)].itTerminal = true ∧ s.feeder[(0 : Fin 6)].state = st) ∧
    (idle.sec[(0 : Fin 6)].itTelegram = false ∧ idle.sec[(0 : Fin 6)].itTerminal = false) := by
  decide +kernel

/-- Outside STANDBY, without a hop left or onto a port that is disabled, onto a port that tests, onto a free port, onto a
busy one whose queue has a place and is full; and a TEST telegram of this station and of another. -/
theorem witness_TelegramForwardedOrEchoed :
    let t : Telegram := { telegram 1 with dest := 18 }
    let s := linked upLink
    let u : State := { s with dnPort := { PortRec.reset with state := .testing } }
    let busy (n : Nat) : PortRec :=
      { (busyUp (List.replicate n forwardedItem)).upPort with state := .inSync }
    (∀ x ∈ [s, u, { s with sts := feeding.sts, group := feeding.group, sync := feeding.sync },
        { s with dnPort := { PortRec.reset with disabled := true } }, { s with dnPort := busy 3 }, { s with dnPort := busy 4 },
        { s with upPort := busy 3 }, { s with upPort := busy 4 }],
      x.quiet = true ∧ (x.port .up).disabled = false ∧ (x.port .up).state = .inSync ∧ x.sts.complete = true ∧
      x.sts.address ≠ some t.dest) ∧
    decodeTelegram t.bytes = some t ∧ decodeTelegram { t with hops := 0 }.bytes = some { t with hops := 0 } ∧
    0 < t.hops ∧ s.sts.mode = .standby ∧ feeding.sts.mode ≠ .standby ∧ (s.port .dn).disabled = false ∧
    (s.port .dn).state ≠ .testing ∧ (s.port .dn).queue = [] ∧ (s.port .dn).sending = none ∧
    (u.port .dn).state = .testing ∧
    decodeTelegram (testTelegram 17).bytes = some (testTelegram 17) ∧ s.sts.address = some (testTelegram 17).source ∧
    decodeTelegram (testTelegram 12).bytes = some (testTelegram 12) ∧ s.sts.address ≠ some (testTelegram 12).source ∧
    (s.port .up).queue = [] ∧ (s.port .up).sending = none ∧ (busy 3).sending ≠ none ∧ (busy 3).queue.length < 4 ∧
    (busy 4).sending ≠ none ∧ (busy 4).queue.length = 4 ∧ (busy 4).state ≠ .testing := by decide +kernel

theorem witness_LostLinksGoDown :
    ((linked upLink).quiet = true ∧ ((linked upLink).port .up).state = .inSync ∧
      ((linked upLink).port .up).undecodable ≠ 8 ∧ ((linked upLink).port .up).silence ≠ 20) ∧
    (∀ q ∈ [PortRec.reset, (busyUp [forwardedItem, ownItem]).upPort],
      (let s := { linked upLink with upPort := { q with state := .inSync, undecodable := 8 } }
       (s.port .up).state = .inSync ∧ (s.port .up).undecodable = 8) ∧
      (let s := { linked upLink with upPort := { q with state := .inSync, silence := 20 } }
       s.quiet = true ∧ (s.port .up).state = .inSync ∧ (s.port .up).undecodable ≠ 8 ∧ (s.port .up).silence = 20)) ∧
    (PortRec.reset.sending = none ∧ (busyUp [forwardedItem, ownItem]).upPort.sending ≠ none) ∧
    ((linked upLink).link[(0 : Fin 4)].timeout ≠ some 0 ∧ (linked upLink).link[(0 : Fin 4)].up = true) ∧
    (let s := linked { upLink with timeout := some 0 }
     s.quiet = true ∧ s.link[(0 : Fin 4)].timeout = some 0 ∧ s.link[(0 : Fin 4)].up = true) ∧
    (let s := linked { LinkRec.reset with timeout := some 0, upCount := 2 }
     s.quiet = true ∧ s.link[(0 : Fin 4)].timeout = some 0 ∧ s.link[(0 : Fin 4)].up = false) := by decide +kernel

/-- On an idle line; on a busy one with a telegram of the same station queued, with a place free, with a forwarded
telegram to give up, and with none. -/
theorem witness_TelegramsBuiltAndSent :
    (let s := { linked upLink with sts := { idle.sts with complete := false } }
     s.quiet = true ∧ s.sts.complete = false) ∧
    (let s := linked upLink
     s.quiet = true ∧ s.sts.complete = true ∧ s.cfg.partners[(1 : Fin 4)].enabled = false ∧
     s.cfg.partners[(0 : Fin 4)].enabled = true ∧ (s.port .up).disabled = false ∧ (s.port .up).state ≠ .testing ∧
     (s.port .up).queue = [] ∧ (s.port .up).sending = none) ∧
    (let other : Queued := { own := true, telegram := telegram 1 }
     let same (y : Queued) : Bool := y.own && y.telegram.dest == BitVec.ofNat 8 12
     (∀ q ∈ [[other, ownItem], [other, forwardedItem], [other, forwardedItem, other, other],
         [other, other, other, other]],
       (busyUp q).quiet = true ∧ ((busyUp q).port .up).sending ≠ none ∧ ((busyUp q).port .up).queue = q ∧
       (busyUp q).cfg.partners[(0 : Fin 4)].address = 12) ∧
     [other, ownItem].any same = true ∧ [other, forwardedItem].any same = false ∧
     [other, forwardedItem, other, other] = [other] ++ forwardedItem :: [other, other] ∧ other.own = true ∧
     forwardedItem.own = false ∧ [other, forwardedItem, other, other].any same = false ∧
     [other, other, other, other].any same = false) ∧
    (∀ x ∈ [({ own := true, telegram := telegram 1 } : Queued), { own := false, telegram := testTelegram 12 },
        { own := true, telegram := testTelegram 17 }],
      let s := withUp { PortRec.reset with queue := [x] }
      s.quiet = true ∧ (s.port .up).emptyDue = false ∧ (s.port .up).queue = x :: []) ∧
    (let s := withUp { PortRec.reset with emptyDue := true, queue := [forwardedItem] }
     s.quiet = true ∧ (s.port .up).emptyDue = true) ∧
    (idle.quiet = true ∧ (idle.port .up).emptyDue = false ∧ (idle.port .up).queue = []) := by decide +kernel

/-- An echo 20 ms and 19 ms old; a line that is idle, busy, and busy with a full queue. -/
theorem witness_LinkTestRuns :
    (let s := withUp testingPort
     s.quiet = true ∧ (s.port .up).state = .testing ∧ (s.port .up).queue = [] ∧ (s.port .up).sending = none ∧
     (s.port .up).outstanding = { seq := 0, payload := [], sentAt := 0 } :: [] ∧ (s.port .up).testLeft = some 0 ∧
     (({ s with elapsed := 20 } : State).elapsed - 0).toNat = 20 ∧ (({ s with elapsed := 19 } : State).elapsed - 0).toNat < 20) ∧
    (let testing : Queued := { own := true, telegram := testTelegram 17 }
     ∀ q ∈ [[testing], [testing, forwardedItem, testing, testing]],
       let s := withUp { testingPort with
         testLeft := some 5, queue := q, sending := some { item := testing, afterResync := false } }
       s.quiet = true ∧ (s.port .up).state = .testing ∧ (s.port .up).sending ≠ none ∧ (s.port .up).testLeft ≠ some 0 ∧
       (s.port .up).queue = q ∧ testing.own = true ∧ forwardedItem.own = false) := by decide +kernel

/-- The shortest and the longest duration; a feeder of a partner of the port in WAIT_PARTNER. -/
theorem witness_LinkRequestsAnswered :
    ((1 : Nat) ≤ 600 ∧ idle.ready ∧ idle.sts.complete = true ∧ (idle.port .up).disabled = false ∧
      (idle.port .up).state ≠ .testing ∧
      ∀ k : Fin 6, idle.feeder[k].state ≠ .lineTest ∧ idle.feeder[k].state ≠ .waitPartner) ∧
    (inStart.ready ∧ inStart.sts.complete = false) ∧
    ((withUp { PortRec.reset with disabled := true }).ready ∧
      ((withUp { PortRec.reset with disabled := true }).port .up).disabled = true) ∧
    (let s := { linked upLink with feeder := (inState .waitPartner).feeder }
     s.ready ∧ s.sts.complete = true ∧ (s.port .up).disabled = false ∧ (s.port .up).state ≠ .testing ∧
     s.feeder[(0 : Fin 6)].state = .waitPartner ∧ s.cfg.sections[(0 : Fin 6)].partner = some 0 ∧
     s.cfg.partners[(0 : Fin 4)].enabled = true ∧ s.cfg.partners[(0 : Fin 4)].port = .up) ∧
    ((withUp testingPort).ready ∧ ((withUp testingPort).port .up).state = .testing) := by
  simp only [ready_iff]; decide +kernel

-- ===================================================================== witnesses: rectifier groups

/-- A cycle at each end of the range and just beyond it, for a sync that is LOCKED and one that is not. -/
theorem witness_SyncSupervisionMovesGroup :
    (State.reset.quiet = true ∧ State.reset.aqu.clock ≠ .good) ∧
    (idle.quiet = true ∧ idle.aqu.clock = .good ∧ idle.sync[(0 : Fin 2)].lastCross = none) ∧
    (∀ locked : Bool,
      let s := withGroup GroupRec.reset { SyncRec.reset with locked := locked, lastCross := some 100, seen := .bc } idle
      s.quiet = true ∧ s.aqu.clock = .good ∧ s.sync[(0 : Fin 2)].lastCross = some 100 ∧
      s.sync[(0 : Fin 2)].seen = .bc ∧ 18180 ≤ 18280 - 100 ∧ 22320 - 100 ≤ 22220 ∧ 18279 - 100 < 18180 ∧
      22220 < 22321 - 100) ∧
    (let s := withGroup { GroupRec.reset with state := .running } { lockedSync with bad := 2 } feeding
     s.sync[(0 : Fin 2)].locked = true ∧ s.group[(0 : Fin 2)].state.fires = true ∧ s.sync[(0 : Fin 2)].bad = 2) ∧
    (∀ locked : Bool, ∀ n ∈ [0, 1],
      let s := withGroup { GroupRec.reset with state := .running } { lockedSync with locked := locked, crossTimer := some n }
        feeding
      s.sync[(0 : Fin 2)].locked = locked ∧ s.group[(0 : Fin 2)].state.fires = true ∧ s.quiet = true ∧
      s.aqu.clock = .good ∧ (s.sync[(0 : Fin 2)].crossTimer = some 0 ↔ n = 0)) ∧
    (let s := withGroup GroupRec.reset { SyncRec.reset with good := 5 } feeding
     s.sync[(0 : Fin 2)].locked = false ∧ s.sync[(0 : Fin 2)].good = 5 ∧ s.group[(0 : Fin 2)].state = .off ∧
     s.sts.mode = .normal ∧ s.group[(0 : Fin 2)].overcurrent = false ∧ s.group[(0 : Fin 2)].temp = false ∧
     s.group[(0 : Fin 2)].channel = false) := by decide +kernel

/-- The error of 10 that ends the soft start, and 11 that does not: USET is 780 V and no current flows. -/
theorem witness_FiringPermittedAndSoftStart :
    (idle.quiet = true ∧ idle.group[(0 : Fin 2)].state.fires = false) ∧
    (∀ ub ∈ [(770 : Int), 769],
      let s := withReading chUB ub .good (withGroup { GroupRec.reset with state := .starting } lockedSync feeding)
      s.quiet = true ∧ s.group[(0 : Fin 2)].state = .starting ∧ s.sync[(0 : Fin 2)].locked = true ∧
      s.sts.mode = .normal ∧ (s.reading chUB).health ≠ .stale ∧ (s.uset : Int) - (s.reading chUB).value = 780 - ub) := by
  decide +kernel

/-- UOV is 900 V and ILIM 2500 A in NORMAL: below and at each, and the band of 20 V under UOV. -/
theorem witness_FiringUpdatesAngle :
    (feeding.quiet = true ∧ feeding.group[(0 : Fin 2)].state = .running ∧ feeding.sync[(0 : Fin 2)].locked = true ∧
      feeding.sts.mode = .normal ∧ (feeding.reading chUB).health = .stale) ∧
    (∀ ub ∈ [(879 : Int), 880, 899, 900], ∀ ig ∈ [(2499 : Int), 2500], ∀ back : Bool,
      let s := withReading (chIG 0) ig .good (withReading chUB ub .good
        (withGroup { GroupRec.reset with state := .running, phasedBack := back } lockedSync feeding))
      s.quiet = true ∧ s.group[(0 : Fin 2)].state = .running ∧ s.sync[(0 : Fin 2)].locked = true ∧ s.sts.mode = .normal ∧
      (s.reading chUB).health ≠ .stale ∧ (s.reading chUB).value = ub ∧ (s.reading (chIG 0)).value = ig ∧
      s.group[(0 : Fin 2)].phasedBack = back ∧ s.station.uov = 900 ∧ s.station.ilimG = 2500) ∧
    (let s := withGroup { GroupRec.reset with state := .running, begun := true, anchor := some 0 }
       { lockedSync with period := some 20000 } feeding
     s.quiet = true ∧ s.group[(0 : Fin 2)].state = .running ∧ s.sync[(0 : Fin 2)].locked = true ∧
     s.group[(0 : Fin 2)].anchor = some 0 ∧ s.sync[(0 : Fin 2)].period = some 20000) := by decide +kernel

/-- A history of one and of two restarts of the last 600 s. -/
theorem witness_OvercurrentBlocksThenRestarts :
    (let s := withGroup { GroupRec.reset with state := .running, ocRun := 2 } lockedSync feeding
     s.group[(0 : Fin 2)].state.fires = true ∧ s.group[(0 : Fin 2)].ocRun = 2) ∧
    (let s := withGroup { GroupRec.reset with state := .blocked, delay := some 0 } SyncRec.reset feeding
     s.quiet = true ∧ s.group[(0 : Fin 2)].state = .blocked ∧ s.group[(0 : Fin 2)].delay = some 0 ∧ s.anyCause 0 = true) ∧
    (∀ h ∈ [([1] : List Time), [1, 2]],
      let s := withGroup { GroupRec.reset with state := .blocked, delay := some 0, history := h } lockedSync
        { feeding with elapsed := 5 }
      s.quiet = true ∧ s.group[(0 : Fin 2)].state = .blocked ∧ s.group[(0 : Fin 2)].delay = some 0 ∧ s.anyCause 0 = false ∧
      s.sts.mode = .normal ∧ s.sts.available = s.availableGroups ∧ s.sts.run = true ∧
      (h.filter fun e => decide ((s.elapsed - e).toNat ≤ 600000)).length = h.length) ∧
    (∀ age ∈ [599999, 600000, 600001],
      let s := withGroup { GroupRec.reset with history := [0, 1] } SyncRec.reset { idle with elapsed := BitVec.ofNat 48 age }
      s.quiet = true ∧ s.group[(0 : Fin 2)].history = 0 :: [1] ∧ (s.elapsed - 0).toNat = age) ∧
    (idle.quiet = true ∧ idle.group[(0 : Fin 2)].history = [] ∧ idle.group[(0 : Fin 2)].delay ≠ some 0) := by
  decide +kernel

theorem witness_GroupAndVoltageRequests :
    ((idle.ready ∧ idle.sts.mode ≠ .start) ∧ (State.reset.ready ∧ State.reset.sts.mode = .start)) ∧
    (∀ st ∈ [GState.off, .blocked, .locked, .disabled],
      let s := withGroup { GroupRec.reset with state := st } SyncRec.reset
        { idle with sts := { idle.sts with available := if st = .locked ∨ st = .disabled then 1 else 2 } }
      s.ready ∧ s.sts.mode ≠ .start ∧ s.sts.run = false ∧ s.sts.mode ≠ .normal ∧ s.sts.mode ≠ .reduced ∧
      s.sts.available = s.availableGroups ∧ s.group[(0 : Fin 2)].state = st) := by
  simp only [ready_iff]; decide +kernel

-- ===================================================================== witnesses: station

/-- Record 16, START's last: in START with nothing kept and with each thing kept, in SAFE with a station trip kept, the
breakers closed and open; and an IT_IN input asserted. -/
theorem witness_StartEndsInStandby :
    let s (m : Mode) (kept : List Kept) (closed : Bool) : State := withBfb (reads closed) (starting m kept)
    let keeps : List (List Kept) := [[], [.currentFailed], [.voltageFailed], [.voltageFailed, .currentFailed]]
    let c : TermCfg := { TermCfg.default with fn := .itIn 0 }
    let t := withBfb (reads true) (withCfg { Settings.default with terminals := Settings.default.terminals.set 0 c }
      { starting .start [] with lines := 1 })
    (∀ m ∈ [Mode.start, .safe], ∀ kept ∈ keeps, ∀ closed : Bool, StartHolds (s m kept closed)) ∧
    (∀ m ∈ [Mode.start, .safe], ∀ kept ∈ keeps, ∀ closed : Bool,
      (s m kept closed).sts.complete = false ∧ (s m kept closed).sts.address ≠ none ∧
      16 ≤ (s m kept closed).aqu.latest.number.toNat ∧ (s m kept closed).sst.activity ≠ .loading ∧
      (s m kept closed).sts.mode = m ∧ (s m kept closed).bfb[(0 : Fin 6)].reported = closed ∧
      ∀ t : Fin 16, (s m kept closed).cfg.terminals[t].fn = .none) ∧
    (∀ kept ∈ keeps, (s .start kept true).feeder[(0 : Fin 6)].kept = kept ∧
      Kept.stationTrip ∈ (s .safe kept true).feeder[(0 : Fin 6)].kept) ∧
    (StartHolds t ∧ t.sts.complete = false ∧ t.sts.address ≠ none ∧ 16 ≤ t.aqu.latest.number.toNat ∧
      t.sst.activity ≠ .loading ∧ t.cfg.terminals[(0 : Fin 16)].mode.isInput = true ∧
      t.cfg.terminals[(0 : Fin 16)].fn = .itIn 0 ∧
      t.cfg.terminals[(0 : Fin 16)].mode.sampled (t.lines.getLsbD 0) = true ∧ t.sec[(0 : Fin 6)].itIn = false ∧
      t.feeder[(0 : Fin 6)].kept = [] ∧ t.bfb[(0 : Fin 6)].reported = true) := by
  simp only [StartHolds]; and_intros <;> decide +kernel

theorem witness_FrameFaultTakesStationSafe :
    ∀ st ∈ [FState.closed, .lineTest, .blocked, .opening], ∀ d ∈ [Dest.decide, .lockedOut],
      let s := { feeding with
        sts := { feeding.sts with ffDue := true, ffCount := 400, ffValue := 31 }
        feeder := (withFeeder { Feeder.reset with state := st, dest := some d }).feeder }
      s.sts.ffDue = true ∧ s.sts.frameFault = false ∧ s.sts.mode ≠ .safe ∧ s.sts.complete = true ∧
      s.feeder[(0 : Fin 6)].state = st ∧ s.feeder[(0 : Fin 6)].dest = some d := by decide +kernel

/-- URP_SET is 120 V: a magnitude below it, at it, and a channel that is not GOOD. -/
theorem witness_RailContactHeldLatchedReleased :
    (∀ h ∈ [([1] : List Time), [1, 2]],
      let s := withTerm rplTerm { idle with elapsed := 5, sts := { idle.sts with stage1Due := true, railHistory := h } }
      s.railDue = true ∧ s.rplFitted = true ∧
      (s.sts.railHistory.filter fun e => decide ((s.elapsed - e).toNat ≤ 60000)).length = h.length) ∧
    (∀ age ∈ [59999, 60000],
      let s : State := { idle with elapsed := BitVec.ofNat 48 age, sts := { idle.sts with railHistory := [0] } }
      s.quiet = true ∧ s.sts.railHistory = 0 :: [] ∧ (s.elapsed - 0).toNat = age) ∧
    (idle.quiet = true ∧ idle.sts.contact ≠ .held ∧ idle.sts.railHistory = []) ∧
    (∀ v ∈ [(119 : Int), -120],
      let s := withReading chUR v .good
        (withTerm rplTerm { idle with sts := { idle.sts with contact := .held, hold := some 0 } })
      s.quiet = true ∧ s.sts.contact = .held ∧ s.sts.hold = some 0 ∧ (s.reading chUR).health = .good ∧
      (s.station.urpSet ≤ (s.reading chUR).value.natAbs ↔ v = -120)) ∧
    (let s := { idle with sts := { idle.sts with contact := .held, hold := some 0 } }
     s.quiet = true ∧ s.sts.contact = .held ∧ s.sts.hold = some 0 ∧ (s.reading chUR).health ≠ .good) := by decide +kernel

theorem witness_ResetRailReleasesLatched :
    (State.reset.ready ∧ State.reset.sts.mode = .start) ∧
    (idle.ready ∧ idle.sts.mode ≠ .start ∧ ¬ ∃ t : Fin 16, idle.term[t].cfg.fn = .rplOut) ∧
    (let s := withTerm rplTerm idle
     s.ready ∧ s.sts.mode ≠ .start ∧ s.term[(0 : Fin 16)].cfg.fn = .rplOut ∧ s.sts.contact ≠ .latched) ∧
    (let s := withTerm rplTerm { idle with sts := { idle.sts with contact := .latched } }
     s.ready ∧ s.sts.mode ≠ .start ∧ s.term[(0 : Fin 16)].cfg.fn = .rplOut ∧ s.sts.contact = .latched) ∧
    (let s := { idle with sts := { idle.sts with stage2Due := true } }
     s.sts.contact = .released ∧ s.sts.urInService = true ∧ s.sts.stage2Due = true ∧
     ¬ ∃ t : Fin 16, s.term[t].cfg.fn = .rplOut) := by
  simp only [ready_iff]; decide +kernel

theorem witness_HostAbsenceAndReturn :
    (idle.quiet = true ∧ idle.sts.supTimer ≠ some 0) ∧
    (let s := { idle with sts := { idle.sts with supTimer := some 0 } }
     s.quiet = true ∧ s.sts.supTimer = some 0) ∧
    (let s := { idle with sts := { idle.sts with present := false, supTimer := none } }
     s.quiet = true ∧ s.sts.present = false ∧ s.cmp.reply = none ∧ s.cmp.restartPending = false) := by decide +kernel

/-- One group available and both; settings lost; NORMAL; SAFE with and without a cause; START. -/
theorem witness_RunStandbyResumeStation :
    (∀ st ∈ [GState.off, .disabled],
      let s := withGroup { GroupRec.reset with state := st } SyncRec.reset idle
      s.ready ∧ s.sts.mode = .standby ∧ s.sts.complete = true ∧ s.sts.run = false ∧
      vcount (fun r => r.state.available) s.group ≠ 0 ∧ s.sst.lost = false) ∧
    (let s := { idle with sst := { idle.sst with lost := true } }
     s.ready ∧ s.sts.mode ≠ .normal ∧ s.sts.mode ≠ .reduced ∧ s.sst.lost = true) ∧
    (feeding.ready ∧ feeding.sts.mode = .normal) ∧ (State.reset.ready ∧ State.reset.sts.mode = .start) ∧
    ((safe true).ready ∧ (safe true).sts.mode = .safe ∧ (safe true).safeCauses.any = true) ∧
    ((safe false).ready ∧ (safe false).sts.mode = .safe ∧ (safe false).safeCauses.any = false ∧
      (safe false).sts.complete = true) ∧
    (∀ c ∈ [BlockCause.station, .request],
      let s := { safe false with
        feeder := (withFeeder { Feeder.reset with state := .opening, dest := some .blocked, blockCause := c }).feeder }
      s.ready ∧ s.sts.mode = .safe ∧ s.safeCauses.any = false ∧ s.feeder[(0 : Fin 6)].state = .opening ∧
      s.feeder[(0 : Fin 6)].dest = some .blocked ∧ s.feeder[(0 : Fin 6)].blockCause = c) := by
  simp only [ready_iff]; decide +kernel

/-- The largest time. -/
theorem witness_StatusTimeRestartAnswered : idle.ready ∧ 2 ^ 48 - 1 < 2 ^ 48 := ⟨idle_ready, by decide⟩

-- ===================================================================== witnesses: terminals, events, captures

/-- A THROUGH terminal, an output with function NONE, an input; and the counts 18 and 19 of a filter. -/
theorem witness_TerminalsFilteredSetAndRead :
    (let s := withTerm { Terminal.reset with cfg := { TermCfg.default with mode := .through, source := some 15 } } idle
     s.quiet = true ∧ s.term[(0 : Fin 16)].cfg.mode = .through ∧ s.term[(0 : Fin 16)].cfg.source = some 15) ∧
    (idle.ready ∧ idle.term[(15 : Fin 16)].cfg.mode.isInput = true) ∧
    (let s := withTerm { Terminal.reset with cfg := { TermCfg.default with mode := .outOpenDrain } } idle
     s.ready ∧ s.sts.complete = true ∧ s.term[(0 : Fin 16)].cfg.mode = .outOpenDrain ∧
     s.term[(0 : Fin 16)].cfg.fn = .none) ∧
    (∀ m ∈ [TermMode.inFiltered, .inFilteredInverted], ∀ n ∈ [18, 19],
      let r := { Terminal.reset with cfg := { TermCfg.default with mode := m }, count := n }
      r.cfg.mode = m ∧ (r.count < 19 ↔ n = 18) ∧ r.proc = false) ∧
    (∀ f ∈ [TermFn.none, .alarmOut, .itOut 5, .rplOut], ∀ m ∈ [TermMode.outPushPull, .outOpenDrain],
      let s := withTerm { Terminal.reset with cfg := { TermCfg.default with mode := m, fn := f } } idle
      s.term[(0 : Fin 16)].cfg.mode = m ∧ s.term[(0 : Fin 16)].cfg.fn = f ∧
      s.term[(1 : Fin 16)].cfg.mode.isInput = true) := by
  simp only [ready_iff]; decide +kernel

/-- A queue of 255 entries and a full one. -/
theorem witness_EventAppendMarksLoss :
    (full.events.drop 1).length < 256 ∧
    ∃ lost next rest, full.events = lost :: next :: rest ∧ full.events.length = 256 :=
  ⟨by decide +kernel, idle.event .sts 0 .hostAbsent 8 0 .none, idle.event .sts 0 .hostAbsent 8 0 .none,
    List.replicate 254 (idle.event .sts 0 .hostAbsent 8 0 .none), by decide +kernel⟩

/-- Numbers 0, 1, 8, 9 and 255 with a queue of two entries. -/
theorem witness_TakeEventsRemovesOldest :
    let s := { idle with events := full.events.take 2 }
    s.ready ∧ s.events.length = 2 ∧
    ∀ n ∈ [0, 1, 8, 9, 255], n < 256 ∧ ((1 ≤ n ∧ n ≤ 8) ∨ (n = 0 ∨ 8 < n)) := by
  simp only [ready_iff]; decide +kernel

/-- 4000 records; a frame that counts and one that does not; and the largest power a frame can have against the widest
accumulator. -/
theorem witness_AveragesAndEnergyFormed :
    ({ idle with avg := { Avg.reset with records := 4000 } } : State).avg.records = 4000 ∧ idle.ready ∧
    (idle.quiet = true ∧ idle.aqu.clock = .good ∧ ((after (.frameTrigger 0) idle).reading chUB).health ≠ .good) ∧
    (∀ a ∈ [(14399999 : Int), -14399999, 0],
      let s := withChannel 0 { channel0 with result := some (780, false) }
        (withChannel 4 { channel0 with result := some (if a < 0 then -100 else 100, false) }
          (withChannel 2 { channel0 with result := some (100, false) }
            { idle with energy := { Energy.reset with acc := Energy.reset.acc.set 0 a
                                                      groupAcc := Energy.reset.groupAcc.set 0 a } }))
      let t := after (.frameTrigger 0) s
      s.quiet = true ∧ s.aqu.clock = .good ∧ (t.reading chUB).health = .good ∧ (t.reading (chIF 0)).health = .good ∧
      (t.reading (chIG 0)).health = .good ∧
      (a = 0 ∨ 14400000 ≤ a + (t.reading chUB).value * (t.reading (chIF 0)).value ∨
        a + (t.reading chUB).value * (t.reading (chIF 0)).value ≤ -14400000)) ∧
    (-14400000 : Int) < 14399999 ∧ (14399999 : Int) < 14400000 ∧ (-12000000 : Int) ≤ 12000000 ∧
    (14400000 : Int) ≤ 14399999 + 12000000 ∧ (-14399999 : Int) + -12000000 ≤ -14400000 := by
  simp only [ready_iff]; decide +kernel

/-- idle with the capture enabled and buffer X as given. -/
def capturing (b : CapBuf) : State :=
  { idle with cap := { Cap.reset with enabled := true, x := b, y := { CapBuf.idle with state := .full } } }

/-- A slot of a record. -/
def slot : List Reading := [{ value := 780, health := .good, sat := false }]

theorem witness_TriggersRecordAndComplete :
    (idle.cap.active.triggers.getLsbD srcManual = false ∨ idle.cap.active.triggers.getLsbD srcManual = true) ∧
    (idle.cap.active.triggers.getLsbD 0 = false ∧ idle.cap.active.triggers.getLsbD 6 = true ∧
      idle.cap.x.live = false ∧ idle.cap.y.live = false) ∧
    ((capturing { CapBuf.idle with state := .armed }).cap.active.triggers.getLsbD 14 = true ∧
      (capturing { CapBuf.idle with state := .armed }).cap.x.state = .armed) ∧
    (∀ n ∈ [3, 4],
      let e : TriggerEntry := { source := 6, frame := none, time := 0, unset := true }
      let s := capturing { CapBuf.idle with state := .recording, triggers := List.replicate n e }
      s.cap.active.triggers.getLsbD 6 = true ∧ s.cap.x.state = .recording ∧ (s.cap.x.triggers.length < 4 ↔ n = 3)) ∧
    (let s := { idle with cap := { Cap.reset with
        enabled := true
        x := { CapBuf.idle with state := .recording, desc := { Descriptor.default with post := 2 }, frames := [slot, slot] } } }
     s.cap.x.state = .recording ∧ s.cap.x.stop = none ∧ s.cap.x.stopFrame = false ∧
     s.cap.x.desc.post ≤ s.cap.x.frames.length - s.cap.x.actualPre ∧ s.cap.enabled = true ∧ s.cap.y.state = .idle) := by
  decide +kernel

/-- First frames 0, at the last frame, just after it and at the end of the range; counts 1 and 32. -/
theorem witness_CaptureRequestsAnswered :
    (let full : CapBuf := { CapBuf.idle with state := .full, actualPre := 1, actualPost := 2, frames := [slot, slot, slot] }
     let s := { capturing full with cap := { (capturing full).cap with enabled := false } }
     s.ready ∧ (s.cap.buf .x).state = .full ∧ (s.cap.buf .x).actualPre + (s.cap.buf .x).actualPost = 3 ∧
     (s.cap.buf .x).frames.length = 3 ∧ s.cap.enabled = false ∧
     ∀ first ∈ [0, 2, 3, 4095], first < 4096 ∧ (first < 3 ∨ 3 ≤ first)) ∧
    (idle.ready ∧ (idle.cap.buf .y).state ≠ .full) ∧
    (∀ b ∈ [BufState.idle, .armed, .recording, .full],
      let s := capturing { CapBuf.idle with state := b, desc := { Descriptor.default with post := 1 } }
      s.ready ∧ s.cap.y.state = .full ∧ s.cap.toggle = .x ∧ s.cap.x.state = b ∧ s.cap.enabled = true ∧
      s.cap.x.stop = none) := by
  simp only [ready_iff]; decide +kernel

-- ===================================================================== witnesses: port and settings

/-- Length fields 2, 3, 515 and 516; a frame of length 3 with a wrong CRC; frames cut after 0, 1, 2 and 6 bytes. -/
theorem witness_FramesDiscardedRequestsJudged :
    (idle.quiet = true ∧ idle.cmp.receiving = false ∧ ∀ c ∈ ([0x00, 0xA4, 0xFF] : List Byte), c ≠ 0xA5) ∧
    (beNat [0, 2] < 3 ∧ 515 < beNat [2, 4] ∧ 3 ≤ beNat [0, 3] ∧ beNat [2, 3] ≤ 515) ∧
    (let body : List Byte := [0, 3, 0x11, 1, 0]
     body.length = 3 + 2 ∧ beNat [0, 0] ≠ (crc16 body).toNat) ∧
    (∀ g ∈ [([] : List Byte), [0], [0, 3], [0, 3, 0x11, 1, 0, 0]], g.length < 2 ∨ g.length < 3 + 4) ∧
    (idle.ready ∧ (0x26 : Byte) ∉ catalogue ∧ (0 : Byte).toNat = 0 ∧ 6 < (7 : Byte).toNat ∧ 16 < (17 : Byte).toNat ∧
      1 < (2 : Byte).toNat) := by
  simp only [ready_iff]; decide +kernel

/-- The shortest and the longest payload. -/
theorem witness_GoodFrameIsRequest :
    idle.cmp.receiving = false ∧ idle.quiet = true ∧ ([] : List Byte).length ≤ 512 ∧
    (List.replicate 512 (0 : Byte)).length ≤ 512 := by decide +kernel

theorem witness_BusyReplyFollowsReply :
    let s (b : Option (Byte × Byte)) (pending : Bool) : State :=
      { idle with cmp := { idle.cmp with reply := some ack, busy := b, restartPending := pending } }
    ((s none true).quiet = true ∧ (s none true).sts.present = true ∧ (s none true).cmp.reply = some ack ∧
      (s none true).cmp.restartPending = true) ∧
    ((s none false).quiet = true ∧ (s none false).cmp.restartPending = false ∧ (s none false).cmp.busy = none) ∧
    ((s (some (0x11, 2)) false).quiet = true ∧ (s (some (0x11, 2)) false).cmp.restartPending = false ∧
      (s (some (0x11, 2)) false).cmp.busy = some (0x11, 2)) := by decide +kernel

/-- The defaults meet every range, and so do the records at the lower and the upper ends; a hold level just above the
start level; the restriction of a section whose feeder is CLOSED and of a terminal outside STANDBY. -/
theorem witness_SettingsReadAndWritten :
    (idle.ready ∧ idle.sst.activity = .idle ∧ State.reset.ready ∧ State.reset.sst.activity ≠ .idle ∧
      idle.cfg.groupA[(0 : Fin 6)] = GroupCfg.defaultA) ∧
    (∀ g ∈ [GroupCfg.defaultA,
        { imax := 1000, diSet := 200, diTime := 1, didtStart := 10, didtHold := 10, iDt := 200, tDt := 100 },
        { imax := 8000, diSet := 4000, diTime := 200, didtStart := 2000, didtHold := 2001, iDt := 6000, tDt := 60000 }],
      1000 ≤ g.imax ∧ g.imax ≤ 8000 ∧ g.imax % 10 = 0 ∧ 200 ≤ g.diSet ∧ g.diSet ≤ 4000 ∧ g.diSet % 10 = 0 ∧
      1 ≤ g.diTime ∧ g.diTime ≤ 200 ∧ 10 ≤ g.didtStart ∧ g.didtStart ≤ 2000 ∧ 5 ≤ g.didtHold ∧ g.didtHold < 65536 ∧
      200 ≤ g.iDt ∧ g.iDt ≤ 6000 ∧ g.iDt % 10 = 0 ∧ g.iDt < g.imax ∧ 100 ≤ g.tDt ∧ g.tDt ≤ 60000) ∧
    ((0 : Byte).toNat = 0 ∧ 8 < (9 : Byte).toNat ∧ 6 < (7 : Byte).toNat) ∧
    ((inState .closed).ready ∧ (inState .closed).sst.activity = .idle ∧
      (inState .closed).cfg.badOffset [0, 1, 0] (.sectionRec 0) = none ∧ (inState .closed).feeder[(0 : Fin 6)].state = .closed) ∧
    (feeding.ready ∧ feeding.sst.activity = .idle ∧ feeding.cfg.badOffset [0, 0, 0, 0, 0] (.terminal 0) = none ∧
      feeding.sts.mode ≠ .standby) ∧
    (idle.sts.mode = .standby ∧ idle.feeder[(0 : Fin 6)].state = .open ∧
      (let r := encodeStation StationCfg.default
       r.length = 28 ∧ idle.cfg.badOffset r .station = none) ∧
      (let r := encodeGeneral FeederCfg.default
       r.length = 22 ∧ idle.cfg.badOffset r (.general 0) = none) ∧
      (let r := encodeGroup GroupCfg.defaultB
       r.length = 13 ∧ idle.cfg.badOffset r (.groupB 5) = none) ∧
      (let r := encodeSection (partnered.sections[(0 : Fin 6)])
       r.length = 3 ∧ idle.cfg.badOffset r (.sectionRec 0) = none) ∧
      (let r := encodePartner (partnered.partners[(0 : Fin 4)])
       r.length = 4 ∧ (linked upLink).cfg.badOffset r (.partner 0) = none) ∧
      (let r := encodeTerminal { TermCfg.default with fn := .tempTrip 1 }
       r.length = 5 ∧ idle.cfg.badOffset r (.terminal 15) = none) ∧
      (let r := encodeCapture Descriptor.default
       r.length = 15 ∧ idle.cfg.badOffset r .capture = none)) ∧
    (let r (c d : Byte) : List Byte := [2, c, d] ++ List.replicate 12 0
     (r 0 17).length = 15 ∧ field (r 0 17) 0 1 = 2 ∧ 16 < field (r 0 17) (1 + 1) 1 ∧
     field (r 16 16) (1 + 0) 1 = field (r 16 16) (1 + 1) 1) := by
  simp only [ready_iff]
  and_intros <;> decide +kernel

theorem witness_SettingsLoadedStoredDefaulted :
    (let s := { idle with sst := { idle.sst with
        activity := .loading, image := Settings.default.image, imageCrc := some (crc32 Settings.default.image) } }
     s.quiet = true ∧ s.sst.activity = .loading ∧ s.sts.address ≠ none ∧
     s.sst.imageCrc = some (crc32 s.sst.image) ∧ parseImage s.sst.image = some Settings.default) ∧
    (let s := { idle with sst := { idle.sst with activity := .loading, imageCrc := none } }
     s.quiet = true ∧ s.sst.activity = .loading ∧ s.sts.address ≠ none ∧
     s.sst.imageCrc ≠ some (crc32 s.sst.image)) ∧
    (idle.ready ∧ idle.sst.activity = .idle ∧ idle.sts.mode = .standby) ∧
    (feeding.ready ∧ feeding.sst.activity = .idle ∧ feeding.sts.mode ≠ .standby) ∧
    (let s := { idle with sst := { idle.sst with activity := .storing, copy := some Settings.default } }
     s.ready ∧ s.sst.activity ≠ .idle ∧ s.sst.activity = .storing ∧ s.sst.copy = some Settings.default) := by
  simp only [ready_iff]; decide +kernel

-- ===================================================================== single commands

/-- Feeder 1. -/
def f1 (s : State) : Feeder := s.feeder[(0 : Fin 6)]

/-- Feeder 1 in a line-test phase. -/
def inPhase (p : TestPhase) : State := withFeeder { Feeder.reset with state := .lineTest, phase := some p, timer := some 0 }

/-- The kinds of the events logged. -/
def kinds (s : State) : List EventKind := s.events.map (·.kind)

/-- R154, R157: START with restart cause POWER_ON. -/
theorem test_power_on :
    (after (.powerOn 17) feeding).sts.mode = .start ∧ (after (.powerOn 17) feeding).sts.restartCause = .powerOn := by
  decide +kernel

/-- R154, R208: the image of a store in progress is left with its CRC invalid. -/
theorem test_reset_pin :
    (after (.resetPin 17) { idle with sst := { idle.sst with activity := .storing } }).sst.imageCrc = none ∧
    (after (.resetPin 17) idle).sts.restartCause = .resetPin := by decide +kernel

/-- R1, R5, R17: the first record is number 1. -/
theorem test_frame_trigger :
    (after (.frameTrigger 0) idle).aqu.latest.number = 1 ∧ (after (.frameTrigger 0) idle).aqu.nextFrame = 2 := by
  decide +kernel

/-- R3: −2 V on UB is held as 0 with SATURATED set; section 1.2: UB reaches 1500 V; R4: the conversion of a frame that has
ended does not act. -/
theorem test_conversion_complete :
    (after (.conversionComplete 0 { frame := 1, milli := -2000 }) (withChannel 0 channel0 idle)).aqu.channels[(0 : Fin 17)].result =
      some (0, true) ∧
    (after (.conversionComplete 0 { frame := 1, milli := 1500000 }) (withChannel 0 channel0 idle)).aqu.channels[(0 : Fin 17)].result =
      some (1500, false) ∧
    after (.conversionComplete 0 { frame := 0, milli := 780000 }) (withChannel 0 channel0 idle) = withChannel 0 channel0 idle := by
  decide +kernel

/-- R11, R82: a failed current channel locks its feeder out with cause CHANNEL. -/
theorem test_channel_fail :
    (f1 (after (.channelFail 4) (withChannel 4 { channel0 with staleRun := 4 } idle))).state = .lockedOut ∧
    (f1 (after (.channelFail 4) (withChannel 4 { channel0 with staleRun := 4 } idle))).lockCause = .channel := by
  decide +kernel

/-- R10: the channel is GOOD again. -/
theorem test_channel_restored :
    (after (.channelRestored 0) (withChannel 0 { channel0 with health := .failed, goodRun := 64 } idle)).aqu.channels[(0 : Fin 17)].health
      = .good := by decide +kernel

/-- R15: 2520 periods are a good window, 2521 are not. -/
theorem test_clock_window_end :
    let w (n : Nat) : Instr := .clockWindowEnd { periods := n, straps := 0 }
    (after (w 2520) State.reset).aqu.goodWindows = 1 ∧
    (after (w 2521) (after (w 2520) State.reset)).aqu.goodWindows = 0 := by decide +kernel

/-- R13, R143, R144. -/
theorem test_clock_fail :
    (after .clockFail { idle with aqu := { idle.aqu with stopped := true } }).sts.mode = .safe ∧
    (after .clockFail { idle with aqu := { idle.aqu with stopped := true } }).aqu.clock = .fail := by decide +kernel

/-- R138: the straps are read at step 2 of START, as they stand then, and not again before the next reset. -/
theorem test_clock_good :
    let w (straps : Byte) : Instr := .clockWindowEnd { periods := 2400, straps := straps }
    (after .clockGood (after (w 17) { State.reset with aqu := { Aqu.reset with goodWindows := 999 } })).sts.address =
      some 17 ∧
    (after (w 18) idle).sts.address = some 17 ∧ (after (w 18) idle).straps = 18 := by decide +kernel

/-- R33. -/
theorem test_sotf_window_end :
    (after (.sotfWindowEnd 0) { idle with disc := idle.disc.set 0 { Disc.reset with windowOpen := true } }).disc[(0 : Fin 6)].windowOpen
      = false := by decide +kernel

/-- R158: a new raw level starts 1 ms, ten windows. -/
theorem test_bfb_raw_change :
    (after (.bfbRawChange 0 true) (withBfb (reads false) idle)).bfb[(0 : Fin 6)].filter = some 10 := by decide +kernel

/-- R64, R85: an opening toward OPEN completes; R66: a breaker that opens of itself is an own trip. -/
theorem test_bfb_filter_expiry :
    let opened : Bfb := { reads true with raw := false, filter := some 0 }
    (f1 (after (.bfbFilterExpiry 0) (withBfb opened
      (withFeeder { Feeder.reset with state := .opening, dest := some .open, origin := .manual })))).state = .open ∧
    (f1 (after (.bfbFilterExpiry 0) (withBfb opened (inState .closed)))).element = .external := by decide +kernel

/-- R61. -/
theorem test_close_timer_expiry :
    (f1 (after (.closeTimerExpiry 0) (inState .closing))).lockCause = .closeFail := by decide +kernel

/-- R65: TRIP_k stays asserted. -/
theorem test_open_timer_expiry :
    (f1 (after (.openTimerExpiry 0) (withBfb (reads true) (inState .opening)))).lockCause = .bf ∧
    (after (.openTimerExpiry 0) (withBfb (reads true) (inState .opening))).tripLine 0 = true := by decide +kernel

/-- R53, R72: no partner, so this end leads. -/
theorem test_dead_time_expiry :
    (f1 (after (.deadTimeExpiry 0) (inState .deadTime))).state = .lineTest ∧
    (after (.deadTimeExpiry 0) (inState .deadTime)).sec[(0 : Fin 6)].role = .leader := by decide +kernel

/-- R74. -/
theorem test_reclaim_expiry :
    (f1 (after (.reclaimExpiry 0) (withFeeder { Feeder.reset with state := .closed, attempt := 2, timer := some 0 }))).attempt
      = 0 := by decide +kernel

/-- R75. -/
theorem test_settle_expiry : (f1 (after (.settleExpiry 0) (inPhase .settle))).phase = some .window := by decide +kernel

/-- R76: (20000 × 71) / (780 − 71) is 2002 mΩ, which passes 2000 mΩ. -/
theorem test_line_test_window_complete :
    let s := withFeeder { Feeder.reset with
      state := .lineTest, phase := some .window, count := 64, sumUl := 64 * 71, sumUb := 64 * 780 }
    (f1 (after (.lineTestWindowComplete 0) s)).state = .closing ∧
    ((f1 (after (.lineTestWindowComplete 0) s)).lastTest.map (·.rline)) = some 2002 := by decide +kernel

/-- R78: a retry keeps the invalid count. -/
theorem test_retry_expiry :
    let s := withFeeder { Feeder.reset with state := .lineTest, phase := some .retry, timer := some 0, invalid := 2 }
    (f1 (after (.retryExpiry 0) s)).phase = some .settle ∧ (f1 (after (.retryExpiry 0) s)).invalid = 2 := by decide +kernel

/-- R80. -/
theorem test_t_wait_expiry : (f1 (after (.tWaitExpiry 0) (inState .waitPartner))).state = .lineTest := by decide +kernel

/-- R80: WAIT_PARTNER closes on a live line. -/
theorem test_live_line :
    let s := withSec { Section.reset with summary := .closed }
      (withFeeder { Feeder.reset with state := .waitPartner, liveRun := 400 })
    (f1 (after (.liveLine 0) s)).state = .closing ∧ (f1 (after (.liveLine 0) s)).path = .live := by decide +kernel

/-- R84: ACCEPTED with a line test; REFUSED_STATE in SAFE. -/
theorem test_close_feeder :
    statusOf (after (.closeFeeder 1 [1]) idle) = some .accepted ∧
    statusOf (after (.closeFeeder 1 [1]) (safe true)) = some .refusedState := by decide +kernel

/-- R85. -/
theorem test_open_feeder :
    (f1 (after (.openFeeder 1 [1]) (inState .closed))).origin = .manual ∧
    (f1 (after (.openFeeder 1 [1]) (inState .closed))).dest = some .open := by decide +kernel

/-- R86: cause BF is not reset while the breaker reads closed. -/
theorem test_reset_feeder :
    let s := withFeeder { Feeder.reset with state := .lockedOut, lockCause := .bf }
    (f1 (after (.resetFeeder 1 [1]) s)).state = .open ∧
    statusOf (after (.resetFeeder 1 [1]) (withBfb (reads true) s)) = some .refusedState := by decide +kernel

/-- R87. -/
theorem test_block_feeder : (f1 (after (.blockFeeder 1 [1]) idle)).blockCause = .request := by decide +kernel

/-- R87: a feeder BLOCKED by the station is not unblocked. -/
theorem test_unblock_feeder :
    statusOf (after (.unblockFeeder 1 [1]) (withFeeder { Feeder.reset with state := .blocked, blockCause := .station })) =
      some .refusedState ∧
    (f1 (after (.unblockFeeder 1 [1]) (withFeeder { Feeder.reset with state := .blocked, blockCause := .request }))).state =
      .open := by decide +kernel

/-- R88, R200: feeder 7 is BAD_ARGUMENT. -/
theorem test_read_feeder :
    statusOf (after (.readFeeder 1 [6]) idle) = some .ok ∧ statusOf (after (.readFeeder 1 [7]) idle) = some .badArgument ∧
    statusOf (after (.readFeeder 1 []) idle) = some .badLength := by decide +kernel

/-- R100, R45: sequence number 8 after 7 is accepted, and the section reads CLOSED. -/
theorem test_telegram_received :
    (after (.telegramReceived .up (telegram 8).bytes false) (linked upLink)).link[(0 : Fin 4)].lastSeq = some 8 ∧
    (after (.telegramReceived .up (telegram 8).bytes false) (linked upLink)).sec[(0 : Fin 6)].double = true := by
  decide +kernel

/-- R100: the third telegram takes the link UP. -/
theorem test_link_up :
    (after (.linkUp 0) (linked { LinkRec.reset with upCount := 3, held := some (telegram 9) })).link[(0 : Fin 4)].up = true := by
  decide +kernel

/-- R92, R102. -/
theorem test_port_sync_loss :
    let s (ms : Nat) : State := { linked upLink with upPort := { PortRec.reset with state := .inSync, silence := ms } }
    ((after (.portSyncLoss .up) (s 20)).port .up).state = .syncing ∧
    (after (.portSyncLoss .up) (s 20)).link[(0 : Fin 4)].up = false ∧
    ((after (.portSyncLoss .up) (s 19)).port .up).state = .inSync := by decide +kernel

/-- R95: the next sequence number; one telegram leaves at once. -/
theorem test_telegram_period :
    (after .telegramPeriod (linked upLink)).link[(0 : Fin 4)].nextSeq = 1 ∧
    ((after .telegramPeriod (linked upLink)).port .up).sending.isSome = true := by decide +kernel

/-- R96. -/
theorem test_transmission_end :
    let s := withUp { PortRec.reset with queue := [{ own := true, telegram := telegram 1 }] }
    ((after (.transmissionEnd .up) s).port .up).queue = [] ∧
    ((after (.transmissionEnd .up) (after (.transmissionEnd .up) s)).port .up).sending = none := by decide +kernel

/-- R46, R101: summary UNKNOWN, and single feeding. -/
theorem test_partner_timeout :
    let s (ms : Nat) := withSec { Section.reset with summary := .closed, double := true }
      (linked { upLink with timeout := some ms })
    (after (.partnerTimeout 0) (s 0)).link[(0 : Fin 4)].up = false ∧
    (after (.partnerTimeout 0) (s 0)).sec[(0 : Fin 6)].double = false ∧
    (after (.partnerTimeout 0) (s 20)).link[(0 : Fin 4)].up = true := by decide +kernel

/-- R108. -/
theorem test_test_telegram_period :
    ((after (.testTelegramPeriod .up) (withUp testingPort)).port .up).sent = 1 ∧
    ((after (.testTelegramPeriod .up) (withUp testingPort)).port .up).testSeq = 1 := by decide +kernel

/-- R109: an echo is missing 20 ms after its telegram, not before. -/
theorem test_test_echo_timeout :
    let s (ms : Time) : State := { withUp testingPort with elapsed := ms }
    ((after (.testEchoTimeout .up) (s 20)).port .up).missing = 1 ∧
    ((after (.testEchoTimeout .up) (s 20)).port .up).outstanding = [] ∧
    ((after (.testEchoTimeout .up) (s 19)).port .up).missing = 0 := by decide +kernel

/-- R110. -/
theorem test_link_test_expiry :
    ((after (.linkTestExpiry .up) (withUp testingPort)).port .up).state = .syncing ∧
    ((after (.linkTestExpiry .up) (withUp testingPort)).port .up).missing = 1 := by decide +kernel

/-- R105: the cause flags are cleared by reading. -/
theorem test_read_link :
    ((after (.readLink 1 [0]) (withUp { PortRec.reset with crcErr := true })).port .up).crcErr = false := by decide +kernel

/-- R107: 600 s is in range, 601 s is BAD_ARGUMENT. -/
theorem test_start_link_test :
    ((after (.startLinkTest 1 [0, 2, 88]) idle).port .up).testLeft = some 600000 ∧
    statusOf (after (.startLinkTest 1 [0, 2, 89]) idle) = some .badArgument := by decide +kernel

/-- R110. -/
theorem test_stop_link_test :
    ((after (.stopLinkTest 1 [0]) (withUp testingPort)).port .up).state = .syncing ∧
    statusOf (after (.stopLinkTest 1 [0]) idle) = some .refusedState := by decide +kernel

/-- R56. -/
theorem test_read_sections : statusOf (after (.readSections 1 []) State.reset) = some .ok := by decide +kernel

/-- R113: a cycle of 20000 µs with B and then C. -/
theorem test_sync_crossing :
    let s := withGroup GroupRec.reset { SyncRec.reset with lastCross := some 0, seen := .bc } idle
    (after (.syncCrossing 0 .a 20000) s).sync[(0 : Fin 2)].period = some 20000 ∧
    (after (.syncCrossing 0 .a 20000) s).sync[(0 : Fin 2)].good = 1 := by decide +kernel

/-- R113, R114: the expiry of the crossing timer, and the same after a crossing that has restarted it. -/
theorem test_crossing_timer_expiry :
    let s := withGroup { GroupRec.reset with state := .running } { lockedSync with crossTimer := some 0 } feeding
    (after (.crossingTimerExpiry 0) s).group[(0 : Fin 2)].state = .blocked ∧
    (after (.crossingTimerExpiry 0) (after (.syncCrossing 0 .a 39999) s)).sync[(0 : Fin 2)].lastCross = some 39999 := by
  decide +kernel

/-- R114. -/
theorem test_sync_state_change :
    (after (.syncStateChange 0) (withGroup GroupRec.reset { SyncRec.reset with good := 5 } idle)).sync[(0 : Fin 2)].locked = true := by
  decide +kernel

/-- R117, R118: 780 V wanted, 770 V read, K_A 8: the step is 5, and 150.0° becomes 149.5°. -/
theorem test_firing_instant :
    let s := withReading chUB 770 .good feeding
    (after (.firingInstant 0 0) s).group[(0 : Fin 2)].alpha = 1495 ∧
    (after (.firingInstant 0 0) s).group[(0 : Fin 2)].next = 1 := by decide +kernel

/-- R115, R116. -/
theorem test_firing_pulse_end :
    (after (.firingPulseEnd 0) (withGroup { GroupRec.reset with pulse := some 3 } lockedSync idle)).group[(0 : Fin 2)].pulse = none := by
  decide +kernel

/-- R124, R125: the restart delay is 5 s. -/
theorem test_overcurrent :
    (after (.overcurrent 0) (withGroup { GroupRec.reset with state := .running, ocRun := 2 } lockedSync feeding)).group[(0 : Fin 2)].delay
      = some 5000 := by decide +kernel

/-- R126: the third restart within 600 s locks the group. -/
theorem test_restart_delay_expiry :
    let s (h : List Time) := withGroup { GroupRec.reset with state := .blocked, delay := some 0, history := h } lockedSync
      { feeding with elapsed := 5 }
    (after (.restartDelayExpiry 0) (s [1])).group[(0 : Fin 2)].state = .starting ∧
    (after (.restartDelayExpiry 0) (s [1, 2])).group[(0 : Fin 2)].state = .locked := by decide +kernel

/-- R126: a restart 600 s old is removed, a younger one is not. -/
theorem test_restart_history_ageing :
    let s (now : Time) : State := withGroup { GroupRec.reset with history := [1, 2] } lockedSync { idle with elapsed := now }
    (after (.restartHistoryAgeing 0) (s 600001)).group[(0 : Fin 2)].history = [2] ∧
    (after (.restartHistoryAgeing 0) (s 600000)).group[(0 : Fin 2)].history = [1, 2] := by decide +kernel

/-- R129: only a DISABLED group. -/
theorem test_enable_group :
    (after (.enableGroup 1 [1]) (withGroup { GroupRec.reset with state := .disabled } SyncRec.reset idle)).group[(0 : Fin 2)].state = .off ∧
    statusOf (after (.enableGroup 1 [1]) idle) = some .refusedState := by decide +kernel

/-- R130, R141: the station is REDUCED with one group left. -/
theorem test_disable_group :
    (after (.disableGroup 1 [2]) feeding).group[(1 : Fin 2)].state = .disabled ∧
    (after (.disableGroup 1 [2]) feeding).sts.mode = .reduced := by decide +kernel

/-- R131. -/
theorem test_reset_group :
    (after (.resetGroup 1 [1]) (withGroup { GroupRec.reset with state := .locked, history := [1] } SyncRec.reset idle)).group[(0 : Fin 2)].history
      = [] ∧ statusOf (after (.resetGroup 1 [1]) idle) = some .refusedState := by decide +kernel

/-- R132: 599 becomes 600 and 901 becomes 900. -/
theorem test_set_voltage :
    (after (.setVoltage 1 [2, 87]) idle).uset = 600 ∧ (after (.setVoltage 1 [3, 133]) idle).uset = 900 := by decide +kernel

/-- R133. -/
theorem test_read_groups : statusOf (after (.readGroups 1 []) State.reset) = some .ok := by decide +kernel

/-- R210: an image that does not check gives the defaults and the settings-lost mark. -/
theorem test_settings_load_complete :
    let s := { idle with sst := { idle.sst with activity := .loading, imageCrc := none } }
    (after .settingsLoadComplete s).sst.lost = true ∧ kinds (after .settingsLoadComplete s) = [.settingsLost] := by
  decide +kernel

/-- R89, R139: a breaker that reads closed is adopted CLOSED, and the station is in STANDBY. -/
theorem test_start_complete :
    let s := withBfb (reads true) { idle with
      sts := { idle.sts with complete := false, mode := .start }
      aqu := { idle.aqu with latest := { idle.aqu.latest with number := 16 } } }
    (after .startComplete s).sts.mode = .standby ∧ (f1 (after .startComplete s)).state = .closed := by decide +kernel

/-- R144, R147. -/
theorem test_frame_fault :
    (after .frameFault { idle with sts := { idle.sts with ffDue := true } }).sts.mode = .safe ∧
    (after .frameFault { idle with sts := { idle.sts with ffDue := true } }).sts.frameFault = true := by decide +kernel

/-- R148: the first operation holds for T_RPL, 10 s. -/
theorem test_rail_earth_operate :
    let s := withTerm rplTerm { idle with sts := { idle.sts with stage1Due := true } }
    (after .railEarthOperate s).sts.contact = .held ∧ (after .railEarthOperate s).sts.hold = some 10000 := by decide +kernel

/-- R149: a reading that is not GOOD restarts the hold. -/
theorem test_rail_hold_expiry :
    let s := { idle with sts := { idle.sts with contact := .held, hold := some 0 } }
    (after .railHoldExpiry s).sts.hold = some 10000 ∧
    (after .railHoldExpiry (withReading chUR 119 .good s)).sts.contact = .released := by decide +kernel

/-- R148, R149: an operation 60 s old is removed, a younger one is not. -/
theorem test_rail_history_ageing :
    let s (now : Time) : State := { idle with elapsed := now, sts := { idle.sts with railHistory := [1, 2] } }
    (after .railHistoryAgeing (s 60001)).sts.railHistory = [2] ∧
    (after .railHistoryAgeing (s 60000)).sts.railHistory = [1, 2] := by decide +kernel

/-- R150: NOT_FITTED without a terminal. -/
theorem test_reset_rail_earthing :
    statusOf (after (.resetRailEarthing 1 []) idle) = some .notFitted ∧
    (after (.resetRailEarthing 1 []) (withTerm rplTerm { idle with sts := { idle.sts with contact := .latched } })).sts.contact =
      .released := by decide +kernel

/-- R128, R153. -/
theorem test_host_supervision_expiry :
    let s : State := { idle with uset := 700, sts := { idle.sts with supTimer := some 0 } }
    (after .hostSupervisionExpiry s).sts.present = false ∧ (after .hostSupervisionExpiry s).uset = 780 ∧
    (after .hostSupervisionExpiry idle).sts.present = true := by decide +kernel

/-- R156. -/
theorem test_read_station_status : statusOf (after (.readStationStatus 1 []) State.reset) = some .ok := by decide +kernel

/-- R140, R141: two groups available give NORMAL. -/
theorem test_run_station :
    (after (.runStation 1 []) idle).sts.mode = .normal ∧ statusOf (after (.runStation 1 []) idle) = some .accepted := by
  decide +kernel

/-- R127, R142. -/
theorem test_standby_station :
    (after (.standbyStation 1 []) feeding).sts.mode = .standby ∧
    (after (.standbyStation 1 []) feeding).group[(1 : Fin 2)].state = .off := by decide +kernel

/-- R146: a cause present refuses. -/
theorem test_resume_station :
    (after (.resumeStation 1 []) (safe false)).sts.mode = .standby ∧
    statusOf (after (.resumeStation 1 []) (safe true)) = some .refusedState := by decide +kernel

/-- R155. -/
theorem test_set_time :
    (after (.setTime 1 [0, 0, 0, 0, 1, 2]) idle).stationTime = 258 ∧
    (after (.setTime 1 [0, 0, 0, 0, 1, 2]) idle).unset = false := by decide +kernel

/-- R204: the reset follows the reply. -/
theorem test_restart :
    (after (.restart 1 []) idle).cmp.restartPending = true ∧
    (after .replySent (after (.restart 1 []) idle)).sts.restartCause = .restartRequest := by decide +kernel

/-- R164. -/
theorem test_through_source_change :
    (after (.throughSourceChange 15 true)
      (withTerm { Terminal.reset with cfg := { TermCfg.default with mode := .through, source := some 15 } } idle)).driven 0 =
      some true := by decide +kernel

/-- R165: an input refuses. -/
theorem test_set_output :
    (after (.setOutput 1 [1, 1])
      (withTerm { Terminal.reset with cfg := { TermCfg.default with mode := .outPushPull } } idle)).driven 0 = some true ∧
    statusOf (after (.setOutput 1 [1, 1]) idle) = some .refusedState := by decide +kernel

/-- R161. -/
theorem test_read_terminals :
    (after (.readTerminals 1 []) (withTerm { Terminal.reset with change := true } idle)).term[(0 : Fin 16)].change = false := by
  decide +kernel

/-- R176. -/
theorem test_count_events :
    ((after (.countEvents 1 []) full).cmp.reply.map (·.payload)) = some (.count 256 false) := by decide +kernel

/-- R176: eight are taken, nine are BAD_ARGUMENT. -/
theorem test_take_events :
    (after (.takeEvents 1 [8]) full).events.length = 248 ∧
    statusOf (after (.takeEvents 1 [9]) full) = some .badArgument := by decide +kernel

/-- R179: −7 over 2 is −3. -/
theorem test_average_period_complete :
    let a := { Avg.reset with records := 4000, sums := Avg.reset.sums.set 1 (-7), counts := Avg.reset.counts.set 1 2 }
    (after .averagePeriodComplete { idle with avg := a }).avg.means[(1 : Fin 17)] = some (-3) ∧
    (after .averagePeriodComplete { idle with avg := a }).avg.means[(0 : Fin 17)] = none := by decide +kernel

/-- R180. -/
theorem test_read_measurements : statusOf (after (.readMeasurements 1 []) State.reset) = some .ok := by decide +kernel

/-- R182. -/
theorem test_read_energy : statusOf (after (.readEnergy 1 []) State.reset) = some .ok := by decide +kernel

/-- R187. -/
theorem test_capture_complete :
    let s := capturing { CapBuf.idle with state := .recording, desc := { Descriptor.default with post := 1 }, frames := [slot] }
    (after .captureComplete s).cap.x.state = .full ∧ kinds (after .captureComplete s) = [.captureDone] := by decide +kernel

/-- R192. -/
theorem test_read_capture_status : statusOf (after (.readCaptureStatus 1 []) idle) = some .ok := by decide +kernel

/-- R190, R200: count 33 is BAD_ARGUMENT at offset 3; an IDLE buffer is refused. -/
theorem test_read_capture :
    ((after (.readCapture 1 [0, 0, 0, 33]) idle).cmp.reply.map (·.payload)) = some (.offset 3) ∧
    statusOf (after (.readCapture 1 [0, 0, 0, 32]) idle) = some .refusedState := by decide +kernel

/-- R184, R191: with the capture enabled a release arms the buffer again. -/
theorem test_release_capture :
    (after (.releaseCapture 1 [1]) (capturing CapBuf.idle)).cap.y.state = .idle ∧
    (after (.releaseCapture 1 [1]) (capturing CapBuf.idle)).cap.x.state = .armed := by decide +kernel

/-- R188. -/
theorem test_stop_capture :
    (after (.stopCapture 1 []) (capturing { CapBuf.idle with state := .recording, desc := { Descriptor.default with post := 1 } })).cap.x.stop
      = some .stopped ∧ statusOf (after (.stopCapture 1 []) idle) = some .refusedState := by decide +kernel

/-- R186, R192: a request with no buffer armed is answered MISSED, where its trigger is in the set. -/
theorem test_trigger_capture :
    let s := { idle with cap := { Cap.reset with active := { Descriptor.default with triggers := 0x7FFF } } }
    (after (.triggerCapture 1 []) s).cap.missed = 1 ∧
    (after (.triggerCapture 1 []) { s with cap := { s.cap with x := { CapBuf.idle with state := .armed } } }).cap.x.state = .recording := by
  decide +kernel

/-- R184, R189. -/
theorem test_enable_capture : (after (.enableCapture 1 []) idle).cap.x.state = .armed := by decide +kernel

/-- R189. -/
theorem test_disable_capture :
    (after (.disableCapture 1 []) (capturing { CapBuf.idle with state := .armed })).cap.x.state = .idle := by decide +kernel

/-- R195: characters other than A5h leave the receiver HUNTING; a good frame is a request. -/
theorem test_control_frame_discarded :
    (after (.controlFrameDiscarded [0, 1, 2]) idle).cmp.receiving = false ∧
    statusOf (after (.controlFrameDiscarded (0xA5 :: ([0, 3, 0x11, 7, 0] ++ beBytes 2 (crc16 [0, 3, 0x11, 7, 0]).toNat))) idle)
      = some .ok := by decide +kernel

/-- R200. -/
theorem test_unknown_request : statusOf (after (.unknownRequest 0x26 1 []) idle) = some .unknownKind := by decide +kernel

/-- R197, R198: the reply kind is the request kind plus 80h; the BUSY reply follows. -/
theorem test_reply_sent :
    let s := after (.readEnergy 2 []) (after (.readEnergy 1 []) idle)
    (after .replySent s).cmp.reply = some { kind := 0x91, tag := 2, status := .busy, payload := .empty } ∧
    (after .replySent (after .replySent s)).cmp.reply = none := by decide +kernel

/-- R206, R209: the TERMINAL record's five bytes at the defaults; index 17 is BAD_ARGUMENT. -/
theorem test_read_setting :
    ((after (.readSetting 1 [7, 16]) idle).cmp.reply.map (·.payload)) = some (.setting 7 16 [0, 0, 0, 0, 0]) ∧
    ((after (.readSetting 1 [7, 17]) idle).cmp.reply.map (·.payload)) = some (.offset 1) := by decide +kernel

/-- R40, R206: a partner feeder of 7 is BAD_SETTING at offset 1. -/
theorem test_write_setting :
    (after (.writeSetting 1 [5, 1, 2, 6, 1]) idle).cfg.sections[(0 : Fin 6)] =
      { partner := some 1, partnerFeeder := 6, bOnReduced := true } ∧
    ((after (.writeSetting 1 [5, 1, 2, 7, 1]) idle).cmp.reply.map (fun r => (r.status, r.payload))) =
      some (.badSetting, .offset 1) := by decide +kernel

/-- R208. -/
theorem test_store_settings :
    (after (.storeSettings 1 []) idle).sst.activity = .storing ∧ (after (.storeSettings 1 []) idle).sst.imageCrc = none := by
  decide +kernel

/-- R207, R208: the 445 bytes of the records copied. -/
theorem test_store_complete :
    let s := after .storeComplete (after (.storeSettings 1 []) idle)
    s.sst.activity = .idle ∧ s.sst.image = Settings.default.image ∧ kinds s = [.settingsStored] := by decide +kernel

/-- R209: STANDBY only. -/
theorem test_load_defaults :
    (after (.loadDefaults 1 []) (linked LinkRec.reset)).cfg = Settings.default ∧
    statusOf (after (.loadDefaults 1 []) feeding) = some .refusedState := by decide +kernel

/-- R195: a late A5h begins a new frame. -/
theorem test_control_frame_abandoned :
    (after (.controlFrameAbandoned [0xA5, 0] (.lateCharacter 0xA5)) idle).cmp.rx = [0xA5] ∧
    (after (.controlFrameAbandoned [0xA5, 0] .missingStopBit) idle).cmp.receiving = false := by decide +kernel

/-- R94: the line is not silent. -/
theorem test_idle_symbol_received :
    ((after (.idleSymbolReceived .up) (withUp { PortRec.reset with silence := 7 })).port .up).silence = 0 := by decide +kernel

/-- The step runs the command in front (and the queue's rest stays); an empty queue idles (log 3). -/
theorem test_step :
    (match step { idle with pending := [.enableCapture 1 [], .readEnergy 2 []] } with
     | .next t => t.pending == [.readEnergy 2 []] && t.cap.enabled
     | .fault _ => false
     | .refused _ => false) = true := by decide +kernel

end Sys2Proof.Tests
end

section
/-! What one event does to the part, as three relations between the state before and the state after. FeederActs: the
feeder sequences, their discriminators and the sections have acted. StationActs: the rectifier groups and the station
record have changed. Reacts: either, in any order. Each relation says what stays, and that the event queue only grew by
the rule of the ring; every operation of the model that acts so has its lemma here, in the order of the model's files,
so that no later proof unfolds an operation for its frame. -/
namespace Sys2Proof.Machine

-- ===================================================================== the event queue

theorem EventsGrow.refl (q : List Event) : EventsGrow q q := ⟨[], rfl⟩

theorem EventsGrow.push {p q : List Event} (h : EventsGrow p q) (e : Event) : EventsGrow p (pushEvent q e) := by
  obtain ⟨es, rfl⟩ := h
  exact ⟨es ++ [e], by simp⟩

theorem EventsGrow.trans {p q r : List Event} (h : EventsGrow p q) (h' : EventsGrow q r) : EventsGrow p r := by
  obtain ⟨es, rfl⟩ := h
  obtain ⟨fs, rfl⟩ := h'
  exact ⟨es ++ fs, by simp⟩

end Sys2Proof.Machine

namespace Sys2Proof.Proofs

open Sys2Proof Sys2Proof.Machine Sys2Proof.Laws

-- ===================================================================== the relations

/-- The feeder sequences have acted: feeders, discriminators and sections, the capture triggers they hand and the events
they log. -/
structure FeederActs (s t : State) : Prop where
  frame : ∃ f d c p e, t = { s with feeder := f, disc := d, sec := c, cap := p, events := e }
  grow : EventsGrow s.events t.events

/-- The groups and the station record have changed, never the completion of START, with the capture triggers and the
events that go with it. -/
structure StationActs (s t : State) : Prop where
  frame : ∃ g r p e, t = { s with group := g, sts := r, cap := p, events := e }
  complete : t.sts.complete = s.sts.complete
  grow : EventsGrow s.events t.events

/-- Feeder sequences, groups and station record have acted. -/
structure Reacts (s t : State) : Prop where
  frame : ∃ f d c g r p e,
    t = { s with feeder := f, disc := d, sec := c, group := g, sts := r, cap := p, events := e }
  complete : t.sts.complete = s.sts.complete
  grow : EventsGrow s.events t.events

variable {s t u : State}

theorem FeederActs.refl (s : State) : FeederActs s s := ⟨⟨_, _, _, _, _, rfl⟩, .refl _⟩
theorem StationActs.refl (s : State) : StationActs s s := ⟨⟨_, _, _, _, rfl⟩, rfl, .refl _⟩
theorem Reacts.refl (s : State) : Reacts s s := ⟨⟨_, _, _, _, _, _, _, rfl⟩, rfl, .refl _⟩

theorem Reacts.trans (h : Reacts s t) (h' : Reacts t u) : Reacts s u := by
  obtain ⟨⟨_, _, _, _, _, _, _, rfl⟩, hc, hg⟩ := h
  obtain ⟨⟨_, _, _, _, _, _, _, rfl⟩, hc', hg'⟩ := h'
  exact ⟨⟨_, _, _, _, _, _, _, rfl⟩, hc'.trans hc, hg.trans hg'⟩

theorem FeederActs.reacts (h : FeederActs s t) : Reacts s t := by
  obtain ⟨⟨_, _, _, _, _, rfl⟩, hg⟩ := h
  exact ⟨⟨_, _, _, _, _, _, _, rfl⟩, rfl, hg⟩

theorem StationActs.reacts (h : StationActs s t) : Reacts s t := by
  obtain ⟨⟨_, _, _, _, rfl⟩, hc, hg⟩ := h
  exact ⟨⟨_, _, _, _, _, _, _, rfl⟩, hc, hg⟩

theorem FeederActs.ite {c : Prop} [Decidable c] (h : FeederActs s t) (h' : FeederActs s u) :
    FeederActs s (if c then t else u) := by split <;> assumption
theorem StationActs.ite {c : Prop} [Decidable c] (h : StationActs s t) (h' : StationActs s u) :
    StationActs s (if c then t else u) := by split <;> assumption
theorem Reacts.ite {c : Prop} [Decidable c] (h : Reacts s t) (h' : Reacts s u) :
    Reacts s (if c then t else u) := by split <;> assumption

/-- Handed to one after another. -/
theorem FeederActs.foldl {α : Type} {f : State → α → State} (l : List α)
    (hf : ∀ a t, FeederActs s t → FeederActs s (f t a)) (h : FeederActs s t) : FeederActs s (l.foldl f t) := by
  induction l generalizing t with
  | nil => exact h
  | cons a l ih => exact ih (hf a t h)
theorem StationActs.foldl {α : Type} {f : State → α → State} (l : List α)
    (hf : ∀ a t, StationActs s t → StationActs s (f t a)) (h : StationActs s t) : StationActs s (l.foldl f t) := by
  induction l generalizing t with
  | nil => exact h
  | cons a l ih => exact ih (hf a t h)

-- ===================================================================== what stays

section frames

variable (h : Reacts s t)
include h

theorem Reacts.pending : t.pending = s.pending := by obtain ⟨_, _, _, _, _, _, _, rfl⟩ := h.frame; rfl
theorem Reacts.straps : t.straps = s.straps := by obtain ⟨_, _, _, _, _, _, _, rfl⟩ := h.frame; rfl
theorem Reacts.lines : t.lines = s.lines := by obtain ⟨_, _, _, _, _, _, _, rfl⟩ := h.frame; rfl
theorem Reacts.elapsed : t.elapsed = s.elapsed := by obtain ⟨_, _, _, _, _, _, _, rfl⟩ := h.frame; rfl
theorem Reacts.stationTime : t.stationTime = s.stationTime := by obtain ⟨_, _, _, _, _, _, _, rfl⟩ := h.frame; rfl
theorem Reacts.subUs : t.subUs = s.subUs := by obtain ⟨_, _, _, _, _, _, _, rfl⟩ := h.frame; rfl
theorem Reacts.unset : t.unset = s.unset := by obtain ⟨_, _, _, _, _, _, _, rfl⟩ := h.frame; rfl
theorem Reacts.aqu : t.aqu = s.aqu := by obtain ⟨_, _, _, _, _, _, _, rfl⟩ := h.frame; rfl
theorem Reacts.link : t.link = s.link := by obtain ⟨_, _, _, _, _, _, _, rfl⟩ := h.frame; rfl
theorem Reacts.upPort : t.upPort = s.upPort := by obtain ⟨_, _, _, _, _, _, _, rfl⟩ := h.frame; rfl
theorem Reacts.dnPort : t.dnPort = s.dnPort := by obtain ⟨_, _, _, _, _, _, _, rfl⟩ := h.frame; rfl
theorem Reacts.sync : t.sync = s.sync := by obtain ⟨_, _, _, _, _, _, _, rfl⟩ := h.frame; rfl
theorem Reacts.uset : t.uset = s.uset := by obtain ⟨_, _, _, _, _, _, _, rfl⟩ := h.frame; rfl
theorem Reacts.bfb : t.bfb = s.bfb := by obtain ⟨_, _, _, _, _, _, _, rfl⟩ := h.frame; rfl
theorem Reacts.term : t.term = s.term := by obtain ⟨_, _, _, _, _, _, _, rfl⟩ := h.frame; rfl
theorem Reacts.avg : t.avg = s.avg := by obtain ⟨_, _, _, _, _, _, _, rfl⟩ := h.frame; rfl
theorem Reacts.energy : t.energy = s.energy := by obtain ⟨_, _, _, _, _, _, _, rfl⟩ := h.frame; rfl
theorem Reacts.cmp : t.cmp = s.cmp := by obtain ⟨_, _, _, _, _, _, _, rfl⟩ := h.frame; rfl
theorem Reacts.sst : t.sst = s.sst := by obtain ⟨_, _, _, _, _, _, _, rfl⟩ := h.frame; rfl

end frames

theorem FeederActs.sts (h : FeederActs s t) : t.sts = s.sts := by obtain ⟨_, _, _, _, _, rfl⟩ := h.frame; rfl
theorem FeederActs.group (h : FeederActs s t) : t.group = s.group := by obtain ⟨_, _, _, _, _, rfl⟩ := h.frame; rfl
theorem StationActs.feeder (h : StationActs s t) : t.feeder = s.feeder := by obtain ⟨_, _, _, _, rfl⟩ := h.frame; rfl
theorem StationActs.disc (h : StationActs s t) : t.disc = s.disc := by obtain ⟨_, _, _, _, rfl⟩ := h.frame; rfl
theorem StationActs.sec (h : StationActs s t) : t.sec = s.sec := by obtain ⟨_, _, _, _, rfl⟩ := h.frame; rfl

-- ===================================================================== the record updates

section feeders

variable {k : Fin 6} (h : FeederActs s t)
include h

theorem FeederActs.setFeeder {f : Feeder} : FeederActs s (t.setFeeder k f) := by
  obtain ⟨⟨_, _, _, _, _, rfl⟩, hg⟩ := h
  exact ⟨⟨_, _, _, _, _, rfl⟩, hg⟩

theorem FeederActs.setDisc {d : Disc} : FeederActs s (t.setDisc k d) := by
  obtain ⟨⟨_, _, _, _, _, rfl⟩, hg⟩ := h
  exact ⟨⟨_, _, _, _, _, rfl⟩, hg⟩

theorem FeederActs.setSec {c : Section} : FeederActs s (t.setSec k c) := by
  obtain ⟨⟨_, _, _, _, _, rfl⟩, hg⟩ := h
  exact ⟨⟨_, _, _, _, _, rfl⟩, hg⟩

theorem FeederActs.log {b : Block} {n : Nat} {e : EventKind} {v1 v2 : Word16} {r : CapRef} :
    FeederActs s (t.log b n e v1 v2 r) := by
  obtain ⟨⟨_, _, _, _, _, rfl⟩, hg⟩ := h
  exact ⟨⟨_, _, _, _, _, rfl⟩, hg.push _⟩

theorem FeederActs.logFeeder {e : EventKind} {v1 v2 : Word16} : FeederActs s (t.logFeeder k e v1 v2) := h.log

theorem FeederActs.trigger {n : Nat} : FeederActs s (t.trigger n).1 := by
  obtain ⟨c, hc⟩ := trigger_spec n t
  rw [hc]
  obtain ⟨⟨_, _, _, _, _, rfl⟩, hg⟩ := h
  exact ⟨⟨_, _, _, _, _, rfl⟩, hg⟩

theorem FeederActs.setItOut {c : Nat} : FeederActs s (t.setItOut k c) := .ite h h.setSec.log
theorem FeederActs.clearItOut : FeederActs s (t.clearItOut k) := h.setSec
theorem FeederActs.setRole {r : Role} : FeederActs s (t.setRole k r) := h.setSec

-- ===================================================================== the feeder sequence (chapter 4)

theorem FeederActs.moveFeeder {f : Feeder} {st : FState} {n : Option Nat} : FeederActs s (t.moveFeeder k f st n) :=
  h.setDisc.setRole.setFeeder

theorem FeederActs.openBreaker {o : Origin} {e : Element} {b : Bool} {d : Dest} {lc : LockCause} {bc : BlockCause}
    {q : Word16} : FeederActs s (t.openBreaker k o e b d lc bc q) := h.moveFeeder.trigger.log

theorem FeederActs.lockOut {c : LockCause} : FeederActs s (t.lockOut k c) := h.moveFeeder.logFeeder
theorem FeederActs.enterOpen : FeederActs s (t.enterOpen k) := h.moveFeeder
theorem FeederActs.enterBlocked {c : BlockCause} : FeederActs s (t.enterBlocked k c) := h.moveFeeder
theorem FeederActs.enterClosing {p : ClosePath} : FeederActs s (t.enterClosing k p) := h.moveFeeder
theorem FeederActs.enterClosed : FeederActs s (t.enterClosed k) := h.moveFeeder.clearItOut
theorem FeederActs.closeDone : FeederActs s (t.closeDone k) := (FeederActs.ite h.setFeeder h).enterClosed.logFeeder
theorem FeederActs.logLocalClose {f : Feeder} : FeederActs s (t.logLocalClose k f) := h.logFeeder
theorem FeederActs.adoptLocal : FeederActs s (t.adoptLocal k) := h.enterClosed.logLocalClose

theorem FeederActs.decide {b : Bool} : FeederActs s (t.decide k b) :=
  .ite h.lockOut (.ite h.moveFeeder.logFeeder h.lockOut)

theorem FeederActs.testResult {o : TestOutcome} {n : Nat} {v : Option TestValues} :
    FeederActs s (t.testResult k o n v) := h.setFeeder.logFeeder

theorem FeederActs.cancelTest : FeederActs s (t.cancelTest k) := .ite h.testResult h

theorem FeederActs.testInvalid {n : Nat} {v : Option TestValues} : FeederActs s (t.testInvalid k n v) :=
  .ite (.ite h.testResult.setFeeder.adoptLocal h.testResult.setFeeder.enterOpen)
    (.ite h.testResult.setFeeder.adoptLocal
      (.ite h.testResult.setFeeder.moveFeeder h.testResult.setFeeder.lockOut))

theorem FeederActs.beginTest {b : Bool} : FeederActs s (t.beginTest k b) := .ite h.moveFeeder.testInvalid h.moveFeeder
theorem FeederActs.enterWait : FeederActs s (t.enterWait k) := .ite h.moveFeeder.beginTest h.moveFeeder
theorem FeederActs.abandonTest : FeederActs s (t.abandonTest k) := .ite h.testResult.enterWait h
theorem FeederActs.enterLineTest {b : Bool} : FeederActs s (t.enterLineTest k b) := h.beginTest.abandonTest

theorem FeederActs.testWindowDone : FeederActs s (t.testWindowDone k) :=
  .ite h.testInvalid
    (.ite h.testResult.setFeeder.enterClosing
      (.ite h.testResult.setFeeder.enterOpen h.testResult.setFeeder.decide))

theorem FeederActs.testWindowTaken : FeederActs s (t.testWindowTaken k) := .ite h.testWindowDone h

theorem FeederActs.openingDone {n : Nat} : FeederActs s (t.openingDone k n) := by
  unfold State.openingDone
  dsimp only
  split
  · exact h.logFeeder.decide
  · exact h.logFeeder.enterWait
  · exact h.logFeeder.enterBlocked
  · exact h.logFeeder.lockOut
  · exact h.logFeeder.enterOpen
  · exact h.logFeeder.enterOpen

theorem FeederActs.breakerFailed : FeederActs s (t.breakerFailed k) := h.logFeeder.lockOut

theorem FeederActs.ownTrip {p : Trip} : FeederActs s (t.ownTrip k p) :=
  .ite (.ite h.setItOut.openBreaker h.setItOut.openBreaker) h

theorem FeederActs.externalTrip : FeederActs s (t.externalTrip k) := h.openBreaker.setItOut
theorem FeederActs.intertrip : FeederActs s (t.intertrip k) := .ite h.openBreaker h

theorem FeederActs.safeClose : FeederActs s (t.safeClose k) :=
  .ite h.logLocalClose.openBreaker h.logLocalClose.openBreaker

theorem FeederActs.blockedClose : FeederActs s (t.blockedClose k) := h.logLocalClose.openBreaker

theorem FeederActs.bfbAsserts : FeederActs s (t.bfbAsserts k) := by
  refine .ite h ?_
  split
  case h_1 => exact h.closeDone
  case h_2 => exact h
  case h_3 => exact h
  case h_4 => exact .ite h.safeClose h.adoptLocal
  case h_5 => exact .ite h.safeClose h.adoptLocal
  case h_6 => exact .ite h.safeClose h.blockedClose
  case h_7 => exact h.adoptLocal
  case h_8 => exact h.adoptLocal
  case h_9 => exact h.testInvalid

theorem FeederActs.bfbReleases : FeederActs s (t.bfbReleases k) := by
  refine .ite h ?_
  split
  case h_1 => exact h.externalTrip
  case h_2 => exact h.openingDone
  case h_3 => exact .ite h.logFeeder h
  all_goals exact h

theorem FeederActs.keep {x : Kept} : FeederActs s (t.keep k x) := h.setFeeder

theorem FeederActs.currentLost : FeederActs s (t.currentLost k) := by
  unfold State.currentLost
  split
  case h_1 | h_2 => exact h.openBreaker
  case h_3 => exact h.setFeeder
  case h_8 => exact h.cancelTest.lockOut
  case h_9 => exact .ite h h.setFeeder
  all_goals exact h.lockOut

theorem FeederActs.currentFailed : FeederActs s (t.currentFailed k) := .ite h.currentLost h.keep
theorem FeederActs.voltageLost : FeederActs s (t.voltageLost k) := .ite h.setFeeder.testInvalid h.setFeeder
theorem FeederActs.voltageFailed : FeederActs s (t.voltageFailed k) := .ite h.voltageLost h.keep

theorem FeederActs.stationTripped : FeederActs s (t.stationTripped k) := by
  unfold State.stationTripped
  split
  case h_1 | h_2 => exact h.openBreaker
  case h_3 => exact .ite h h.setFeeder
  case h_4 | h_5 | h_6 => exact h.enterBlocked
  case h_7 => exact h.cancelTest.enterBlocked
  all_goals exact h

theorem FeederActs.stationTrip : FeederActs s (t.stationTrip k) := .ite h.stationTripped h.keep
theorem FeederActs.safeExit : FeederActs s (t.safeExit k) := .ite h.enterOpen (.ite h.setFeeder h)

theorem FeederActs.actKept {l : List Kept} : FeederActs s (t.actKept k l) := by
  induction l generalizing t with
  | nil => exact h
  | cons x rest ih =>
    cases x with
    | currentFailed => exact ih h.currentLost
    | voltageFailed => exact ih h.voltageLost
    | stationTrip => exact ih h.stationTripped

theorem FeederActs.adopt : FeederActs s (t.adopt k) :=
  .ite (FeederActs.ite h.setFeeder.enterClosed h.setFeeder.enterOpen).actKept.setItOut
    (FeederActs.ite h.setFeeder.enterClosed h.setFeeder.enterOpen).actKept

theorem FeederActs.summaryChanged : FeederActs s (t.summaryChanged k) :=
  .ite (.ite h.enterOpen h.lockOut) h.abandonTest

theorem FeederActs.linkLost : FeederActs s (t.linkLost k) := .ite h.enterLineTest h

theorem FeederActs.liveStep : FeederActs s (t.liveStep k) := .ite h h.setFeeder
theorem FeederActs.windowStep : FeederActs s (t.windowStep k) := .ite h.setFeeder h

theorem FeederActs.feederFrame : FeederActs s (t.feederFrame k) := by
  refine (FeederActs.ite h ?_).liveStep.windowStep
  dsimp only
  split
  · exact (FeederActs.ite h.setDisc.trigger h.setDisc).ownTrip
  · exact FeederActs.ite h.setDisc.trigger h.setDisc

theorem FeederActs.sotfTaken : FeederActs s (t.sotfTaken k) := .ite h.setDisc h
theorem FeederActs.closeExpiry : FeederActs s (t.closeExpiry k) := .ite h.lockOut h

theorem FeederActs.deadExpiry : FeederActs s (t.deadExpiry k) :=
  .ite (.ite h.enterClosing (.ite h.enterWait h.enterLineTest)) h

theorem FeederActs.reclaimDone : FeederActs s (t.reclaimDone k) := .ite h.setFeeder h
theorem FeederActs.settleDone : FeederActs s (t.settleDone k) := .ite h.setFeeder h
theorem FeederActs.retryDone : FeederActs s (t.retryDone k) := .ite h.enterLineTest h
theorem FeederActs.waitDone : FeederActs s (t.waitDone k) := .ite h.enterLineTest h
theorem FeederActs.liveClose : FeederActs s (t.liveClose k) := .ite h.enterClosing h

theorem FeederActs.closeAccepted : FeederActs s (t.closeAccepted k) :=
  .ite h.setFeeder.enterClosing (.ite h.setFeeder.enterLineTest h.setFeeder.enterClosing)

theorem FeederActs.openRequest (ho : t.openRequest k = some u) : FeederActs s u := by
  unfold State.openRequest at ho
  split at ho
  · cases ho
  · split at ho <;> cases ho
    case h_1 | h_2 => exact h.openBreaker
    case h_5 => exact h.cancelTest.enterOpen
    all_goals exact h.enterOpen

theorem FeederActs.resetAccepted : FeederActs s (t.resetAccepted k) :=
  .ite h.setFeeder.clearItOut.enterBlocked
    (.ite h.setFeeder.clearItOut.enterClosed h.setFeeder.clearItOut.enterOpen)

theorem FeederActs.localReset : FeederActs s (t.localReset k) := .ite h.resetAccepted h

theorem FeederActs.blockRequest (hb : t.blockRequest k = some u) : FeederActs s u := by
  unfold State.blockRequest at hb
  split at hb
  · cases hb
  · split at hb
    case h_3 =>
      split at hb <;> cases hb
      exact h.setFeeder
    case h_7 => cases hb; exact h.cancelTest.enterBlocked
    case h_8 => cases hb; exact h.setFeeder
    case h_9 => cases hb
    case h_1 | h_2 => cases hb; exact h.openBreaker
    all_goals cases hb; exact h.enterBlocked

-- ===================================================================== the sections (chapter 3)

theorem FeederActs.reevaluate : FeederActs s (t.reevaluate k) := .ite h h.setSec.log
theorem FeederActs.intertripReceived {n : Nat} : FeederActs s (t.intertripReceived k n) := h.log.intertrip

theorem FeederActs.handIntertrip {b : Bool} {n : Nat} : FeederActs s (t.handIntertrip k b n) :=
  .ite h.intertripReceived h

theorem FeederActs.setItTerminal {b : Bool} : FeederActs s (t.setItTerminal k b) := h.setSec.handIntertrip

theorem FeederActs.handSection {c : Section} : FeederActs s (t.handSection k c) :=
  (FeederActs.ite h h.summaryChanged).handIntertrip.reevaluate

theorem FeederActs.sectionReplaced : FeederActs s (t.sectionReplaced k) := h.setSec.handSection

theorem FeederActs.clearSections {j : Fin 4} : FeederActs s (t.clearSections j) :=
  .foldl _ (fun _ _ h => .ite h.reevaluate h) (.foldl _ (fun _ _ h => .ite h.setSec h) h)

theorem FeederActs.handLinkLost {j : Fin 4} : FeederActs s (t.handLinkLost j) :=
  .foldl _ (fun _ _ h => .ite h.linkLost h) h

theorem FeederActs.tripAll : FeederActs s t.tripAll := .foldl _ (fun _ _ h => h.stationTrip) h
theorem FeederActs.itOutAll : FeederActs s t.itOutAll := .foldl _ (fun _ _ h => h.setItOut) h
theorem FeederActs.itOutExit : FeederActs s (t.itOutExit k) := .ite h h.clearItOut

theorem FeederActs.safeExits : FeederActs s (feeders6.foldl (fun s k => s.safeExit k) t) :=
  .foldl _ (fun _ _ h => h.safeExit) h

theorem FeederActs.itOutExits : FeederActs s (feeders6.foldl (fun s k => s.itOutExit k) t) :=
  .foldl _ (fun _ _ h => h.itOutExit) h

theorem FeederActs.feedersTakeFrame : FeederActs s t.feedersTakeFrame := .foldl _ (fun _ _ h => h.feederFrame) h
theorem FeederActs.adoptAll : FeederActs s t.adoptAll := .foldl _ (fun _ _ h => h.adopt) h

end feeders

-- ===================================================================== groups and station record (chapters 6 and 7)

section station

variable {g : Fin 2} (h : StationActs s t)
include h

theorem StationActs.setGroupRec {r : GroupRec} : StationActs s (t.setGroupRec g r) := by
  obtain ⟨⟨_, _, _, _, rfl⟩, hc, hg⟩ := h
  exact ⟨⟨_, _, _, _, rfl⟩, hc, hg⟩

/-- An update of the station record; that it leaves the completion of START is checked by computation. -/
theorem StationActs.setSts {r : Sts} (hr : r.complete = t.sts.complete := by rfl) : StationActs s (t.setSts r) := by
  obtain ⟨⟨_, _, _, _, rfl⟩, hc, hg⟩ := h
  exact ⟨⟨_, _, _, _, rfl⟩, hr.trans hc, hg⟩

theorem StationActs.log {b : Block} {n : Nat} {e : EventKind} {v1 v2 : Word16} {r : CapRef} :
    StationActs s (t.log b n e v1 v2 r) := by
  obtain ⟨⟨_, _, _, _, rfl⟩, hc, hg⟩ := h
  exact ⟨⟨_, _, _, _, rfl⟩, hc, hg.push _⟩

theorem StationActs.logSts {e : EventKind} {v1 v2 : Word16} : StationActs s (t.logSts e v1 v2) := h.log

theorem StationActs.trigger {n : Nat} : StationActs s (t.trigger n).1 := by
  obtain ⟨c, hc⟩ := trigger_spec n t
  rw [hc]
  obtain ⟨⟨_, _, _, _, rfl⟩, hc, hg⟩ := h
  exact ⟨⟨_, _, _, _, rfl⟩, hc, hg⟩

theorem StationActs.moveGroup {st : GState} {w : GReason} {r : CapRef} : StationActs s (t.moveGroup g st w r) :=
  h.setGroupRec.log

theorem StationActs.startTest : StationActs s (t.startTest g) := .ite h.moveGroup h
theorem StationActs.blockGroup {c : GCause} : StationActs s (t.blockGroup g c) := .ite h.trigger.setGroupRec.moveGroup h

theorem StationActs.groupOnMode {m : Mode} : StationActs s (t.groupOnMode m g) := by
  cases m with
  | start => exact h
  | normal => exact h.startTest
  | reduced => exact h.startTest
  | standby => exact .ite h.moveGroup h
  | safe => exact .ite h.moveGroup h

theorem StationActs.groupsOnMode {m : Mode} : StationActs s (t.groupsOnMode m) :=
  .foldl _ (fun _ _ h => h.groupOnMode) h

theorem StationActs.advanceNext : StationActs s (t.advanceNext g) := h.setGroupRec

theorem StationActs.update : StationActs s (t.update g) := by
  refine .ite h ?_
  dsimp only
  split
  · exact .ite h.setGroupRec.moveGroup h.setGroupRec
  · exact h.setGroupRec

theorem StationActs.fire {m : Fin 6} : StationActs s (t.fire g m) := .ite h.setGroupRec.update.advanceNext h
theorem StationActs.pulseEnd : StationActs s (t.pulseEnd g) := h.setGroupRec
theorem StationActs.raiseAlpha : StationActs s (t.raiseAlpha g) := .ite h.setGroupRec h
theorem StationActs.tempPresent : StationActs s (t.tempPresent g) := h.setGroupRec.blockGroup
theorem StationActs.groupChannelFailed : StationActs s (t.groupChannelFailed g) := h.setGroupRec.blockGroup
theorem StationActs.overcurrentTaken : StationActs s (t.overcurrentTaken g) := .ite h.setGroupRec.blockGroup h

theorem StationActs.changeMode {m : Mode} {w : ModeCause} : StationActs s (t.changeMode m w) :=
  h.setSts.logSts.groupsOnMode

theorem StationActs.groupsChanged : StationActs s t.groupsChanged := .ite h (.ite h.setSts.changeMode h.setSts)

theorem StationActs.causeCleared {c : SafeCause} : StationActs s (t.causeCleared c) :=
  .ite (h.setSts (by cases c <;> rfl)).logSts h

theorem StationActs.lockGroup : StationActs s (t.lockGroup g) := h.setGroupRec.moveGroup.groupsChanged

theorem StationActs.restartTest : StationActs s (t.restartTest g) :=
  .ite (.ite h.setGroupRec.setGroupRec.moveGroup h.setGroupRec.lockGroup) h

theorem StationActs.groupCauseCleared : StationActs s (t.groupCauseCleared g) := h.startTest.restartTest
theorem StationActs.restartExpiry : StationActs s (t.restartExpiry g) := .ite h.setGroupRec.restartTest h
theorem StationActs.restartAged : StationActs s (t.restartAged g) := h.setGroupRec
theorem StationActs.tempCleared : StationActs s (t.tempCleared g) := h.setGroupRec.groupCauseCleared

theorem StationActs.groupChannelRestored : StationActs s (t.groupChannelRestored g) :=
  h.setGroupRec.groupCauseCleared

theorem StationActs.groupFrame : StationActs s (t.groupFrame g) :=
  .ite h (.ite h.setGroupRec (.ite h.setGroupRec.groupCauseCleared h))

theorem StationActs.groupsTakeFrame : StationActs s t.groupsTakeFrame := .foldl _ (fun _ _ h => h.groupFrame) h
theorem StationActs.enableTaken : StationActs s (t.enableTaken g) := h.moveGroup.groupsChanged.startTest
theorem StationActs.resetTaken : StationActs s (t.resetTaken g) := h.setGroupRec.enableTaken
theorem StationActs.disableTaken : StationActs s (t.disableTaken g) := .ite h h.moveGroup.groupsChanged
theorem StationActs.setTemp {b : Bool} : StationActs s (t.setTemp g b) := .ite h (.ite h.tempPresent h.tempCleared)

theorem StationActs.ffFrame : StationActs s t.ffFrame := .ite h (.ite h.setSts.causeCleared h.setSts)
theorem StationActs.logRail {a : RailAction} {n : Nat} : StationActs s (t.logRail a n) := h.logSts
theorem StationActs.railFrame : StationActs s t.railFrame := .ite h.setSts h
theorem StationActs.stationTakesFrame : StationActs s t.stationTakesFrame := h.ffFrame.railFrame

theorem StationActs.railOperate : StationActs s t.railOperate :=
  .ite (.ite h.setSts.logRail (.ite h.setSts.setSts.logRail h.setSts.setSts.logRail)) h

theorem StationActs.holdExpiry : StationActs s t.holdExpiry := .ite (.ite h.setSts.logRail h.setSts.logRail) h
theorem StationActs.railAged : StationActs s t.railAged := h.setSts
theorem StationActs.railReset : StationActs s t.railReset := h.setSts.logRail
theorem StationActs.railOut : StationActs s t.railOut := h.setSts.logRail
theorem StationActs.railIn : StationActs s t.railIn := h.setSts.logRail
theorem StationActs.runTaken : StationActs s t.runTaken := h.setSts.changeMode
theorem StationActs.standbyTaken : StationActs s t.standbyTaken := .ite h.setSts.changeMode h.setSts

theorem StationActs.stationReplaced : StationActs s t.stationReplaced :=
  .ite (StationActs.foldl groups2 (fun _ _ h => h.raiseAlpha) h).setSts (.foldl groups2 (fun _ _ h => h.raiseAlpha) h)

end station

-- ===================================================================== the whole part

section both

variable (h : Reacts s t)
include h

/-- The feeder sequences act further. -/
theorem Reacts.feeders (h' : FeederActs t u) : Reacts s u := h.trans h'.reacts

/-- The groups and the station record change further. -/
theorem Reacts.station (h' : StationActs t u) : Reacts s u := h.trans h'.reacts

theorem Reacts.enterSafe : Reacts s t.enterSafe :=
  ((h.station (StationActs.refl _).setSts).feeders (FeederActs.refl _).tripAll.itOutAll).station
    (StationActs.refl _).groupsOnMode.trigger.log

theorem Reacts.causePresent {c : SafeCause} : Reacts s (t.causePresent c) := by
  have hc : Reacts s ((t.setSts (t.sts.setCause c true)).logSts .safeCause (safeCauseValue c)
      (uword causePresentCode)) := h.station ((StationActs.refl _).setSts (by cases c <;> rfl)).logSts
  exact .ite h (.ite hc hc.enterSafe)

theorem Reacts.resume : Reacts s t.resume := by
  have hm : Reacts s ((t.setSts { t.sts with run := false }).changeMode .standby .resume) :=
    h.station (StationActs.refl _).setSts.changeMode
  exact hm.feeders (FeederActs.refl _).safeExits.itOutExits

theorem Reacts.breakerFailure {k : Fin 6} : Reacts s (t.breakerFailure k) := by
  have hb : Reacts s ((t.breakerFailed k).causePresent (.breakerFail k)) :=
    (h.feeders (FeederActs.refl _).breakerFailed).causePresent
  exact .ite hb (hb.station (StationActs.refl _).causeCleared)

theorem Reacts.openExpiry {k : Fin 6} : Reacts s (t.openExpiry k) :=
  .ite (.ite h.breakerFailure (h.feeders (FeederActs.refl _).openingDone)) h

theorem Reacts.bfbReported {k : Fin 6} : Reacts s (t.bfbReported k) :=
  .ite (h.feeders (FeederActs.refl _).bfbAsserts)
    ((h.feeders (FeederActs.refl _).bfbReleases).station (StationActs.refl _).causeCleared)

theorem Reacts.frameFaultTaken : Reacts s t.frameFaultTaken :=
  .ite (h.station (StationActs.refl _).setSts.logSts).causePresent h

/-- What the owner of a terminal function does at a change of its level (R160). -/
theorem Reacts.handChange {fn : TermFn} {b : Bool} : Reacts s (t.handChange fn b) := by
  cases fn with
  | tempTrip g => exact h.station (StationActs.refl _).setTemp
  | localReset k => exact .ite (h.feeders (FeederActs.refl _).localReset) h
  | itIn k => exact h.feeders (FeederActs.refl _).setItTerminal
  | none | rplOut | rplFb | itOut _ | alarmOut => exact h

theorem Reacts.handFirst {fn : TermFn} {b : Bool} : Reacts s (t.handFirst fn b) := by
  cases fn with
  | tempTrip g => exact h.station (StationActs.refl _).setTemp
  | itIn k => exact h.feeders (FeederActs.refl _).setItTerminal
  | none | localReset _ | rplOut | rplFb | itOut _ | alarmOut => exact h

theorem Reacts.leaveFunction {fn : TermFn} : Reacts s (t.leaveFunction fn) := by
  cases fn with
  | tempTrip g => exact h.station (StationActs.refl _).setTemp
  | itIn k => exact h.feeders (FeederActs.refl _).setSec
  | rplOut => exact h.station (StationActs.refl _).setSts
  | none | localReset _ | rplFb | itOut _ | alarmOut => exact h

/-- What the owner of a channel does at its failure (R11). -/
theorem Reacts.handFailure {c : ChannelUse} : Reacts s (t.handFailure c) := by
  cases c with
  | ub => exact h.causePresent
  | ur => exact h.station (StationActs.refl _).railOut
  | ig g => exact h.station (StationActs.refl _).groupChannelFailed
  | feederCurrent k => exact h.feeders (FeederActs.refl _).currentFailed
  | lineVoltage k => exact h.feeders (FeederActs.refl _).voltageFailed
  | ife => exact h.causePresent

end both

/-- What the owner of a channel does at its restoration (R11): the feeder sequences do nothing. -/
theorem StationActs.handRestoration {c : ChannelUse} (h : StationActs s t) : StationActs s (t.handRestoration c) := by
  cases c with
  | ub | ife => exact h.causeCleared
  | ur => exact h.railIn
  | ig g => exact h.groupChannelRestored
  | feederCurrent _ | lineVoltage _ => exact h

end Sys2Proof.Proofs
end

section
/-! Which operations leave the acquisition unit as it is: every one but those of chapter 1 and the resets. KeepsAqu says
so of a state before and after; one lemma per operation that reaches beyond Reacts, in the order of the model's
files. -/
namespace Sys2Proof.Proofs

open Sys2Proof Sys2Proof.Machine Sys2Proof.Laws

/-- The acquisition unit is as it was. -/
structure KeepsAqu (s t : State) : Prop where
  aqu : t.aqu = s.aqu

variable {s t u : State}

theorem KeepsAqu.refl (s : State) : KeepsAqu s s := ⟨rfl⟩

theorem KeepsAqu.ite {c : Prop} [Decidable c] (h : KeepsAqu s t) (h' : KeepsAqu s u) :
    KeepsAqu s (if c then t else u) := by split <;> assumption

theorem KeepsAqu.foldl {α : Type} {f : State → α → State} (l : List α)
    (hf : ∀ a t, KeepsAqu s t → KeepsAqu s (f t a)) (h : KeepsAqu s t) : KeepsAqu s (l.foldl f t) := by
  induction l generalizing t with
  | nil => exact h
  | cons a l ih => exact ih (hf a t h)

theorem KeepsAqu.answerIte {c : Prop} [Decidable c] {a b : Answer} (ha : KeepsAqu s a.state)
    (hb : KeepsAqu s b.state) : KeepsAqu s (if c then a else b).state := by split <;> assumption

theorem ok_state (s : State) (x : Payload) : (s.ok x).state = s := rfl

section operations

variable {k : Fin 6} {g : Fin 2} {j : Fin 4} {p : Port} {i : Fin 16} (h : KeepsAqu s t)
include h

/-- A record update of other fields, checked by computation. -/
theorem KeepsAqu.update (hu : u.aqu = t.aqu := by rfl) : KeepsAqu s u := ⟨hu.trans h.aqu⟩

theorem KeepsAqu.reacts (h' : Reacts t u) : KeepsAqu s u := ⟨h'.aqu.trans h.aqu⟩
theorem KeepsAqu.feeders (h' : FeederActs t u) : KeepsAqu s u := h.reacts h'.reacts
theorem KeepsAqu.station (h' : StationActs t u) : KeepsAqu s u := h.reacts h'.reacts

theorem KeepsAqu.setPort {r : PortRec} : KeepsAqu s (t.setPort p r) := ⟨(State.setPort_aqu p r t).trans h.aqu⟩
theorem KeepsAqu.setLink {l : LinkRec} : KeepsAqu s (t.setLink j l) := h.update
theorem KeepsAqu.setSts {r : Sts} : KeepsAqu s (t.setSts r) := h.update
theorem KeepsAqu.setSyncRec {r : SyncRec} : KeepsAqu s (t.setSyncRec g r) := h.update
theorem KeepsAqu.setCmp {c : Cmp} : KeepsAqu s (t.setCmp c) := h.update
theorem KeepsAqu.setTerm {r : Terminal} : KeepsAqu s (t.setTerm i r) := h.update
theorem KeepsAqu.setBfb {b : Bfb} : KeepsAqu s (t.setBfb k b) := h.update
theorem KeepsAqu.setLine {b : Bool} : KeepsAqu s (t.setLine i b) := h.update
theorem KeepsAqu.log {b : Block} {n : Nat} {e : EventKind} {v1 v2 : Word16} {r : CapRef} :
    KeepsAqu s (t.log b n e v1 v2 r) := h.update

theorem KeepsAqu.advance {us : Nat} : KeepsAqu s (t.advance us) := by
  unfold State.advance
  exact .ite h.update h.update

-- ===================================================================== rectifier (chapter 6)

theorem KeepsAqu.crossing {ph : Phase} {time : Nat} : KeepsAqu s (t.crossing g ph time) := by
  refine .ite h ?_
  cases ph with
  | a => exact h.setSyncRec.station (StationActs.refl _).setGroupRec
  | b | c => exact h.setSyncRec

theorem KeepsAqu.syncLost : KeepsAqu s (t.syncLost g) := h.setSyncRec.station (StationActs.refl _).blockGroup

theorem KeepsAqu.crossingExpiry : KeepsAqu s (t.crossingExpiry g) :=
  .ite (.ite h.setSyncRec.syncLost h.setSyncRec.setSyncRec) h

theorem KeepsAqu.syncClockFail : KeepsAqu s (t.syncClockFail g) := h.setSyncRec.station (StationActs.refl _).blockGroup

theorem KeepsAqu.syncChange : KeepsAqu s (t.syncChange g) :=
  .ite (.ite h.syncLost (h.setSyncRec.station (StationActs.refl _).groupCauseCleared)) h

-- ===================================================================== station (chapter 7)

theorem KeepsAqu.hostHeard : KeepsAqu s t.hostHeard := .ite h.setSts h.setSts.log
theorem KeepsAqu.hostLost : KeepsAqu s t.hostLost := .ite h.update h

-- ===================================================================== sections and links (chapters 3 and 5)

theorem KeepsAqu.writeTelegram {m : Mode} {n : Nat} {es : List Entry} : KeepsAqu s (t.writeTelegram j m n es) :=
  h.setLink.feeders
    (.foldl _ (fun _ _ h => .ite h.handSection h) (.foldl _ (fun _ _ h => .ite h.setSec h) (FeederActs.refl _)))

theorem KeepsAqu.handTelegram {x : Telegram} : KeepsAqu s (t.handTelegram j x) := by
  unfold State.handTelegram
  split
  · exact h.writeTelegram
  · exact h

theorem KeepsAqu.queueOn {x : Queued} : KeepsAqu s (t.queueOn p x) := h.setPort
theorem KeepsAqu.sendStatus : KeepsAqu s (t.sendStatus j) := .ite h.setLink.queueOn h

theorem KeepsAqu.telegramPeriodTaken : KeepsAqu s t.telegramPeriodTaken :=
  .ite (.foldl partners4 (fun _ _ h => h.sendStatus) h) h

theorem KeepsAqu.linkDown {c : LinkCause} : KeepsAqu s (t.linkDown j c) :=
  h.setLink.log.feeders (FeederActs.refl _).clearSections.handLinkLost

theorem KeepsAqu.partnersDown {c : LinkCause} : KeepsAqu s (t.partnersDown p c) :=
  .foldl partners4 (fun _ _ h => .ite (.ite h.setLink.linkDown h.setLink) h) h

theorem KeepsAqu.partnerExpiry : KeepsAqu s (t.partnerExpiry j) := .ite (.ite h.setLink.setPort.linkDown h.setLink) h
theorem KeepsAqu.transmissionDone : KeepsAqu s (t.transmissionDone p) := h.setPort

theorem KeepsAqu.enterSyncing {c : LinkCause} {b : Bool} : KeepsAqu s (t.enterSyncing p c b) :=
  h.setPort.partnersDown.log

theorem KeepsAqu.syncLoss : KeepsAqu s (t.syncLoss p) := .ite (.ite h.enterSyncing (.ite h.enterSyncing h)) h
theorem KeepsAqu.syncLossTaken : KeepsAqu s (t.syncLossTaken p) := .ite h.syncLoss h
theorem KeepsAqu.disablePorts : KeepsAqu s t.disablePorts := .foldl ports2 (fun _ _ h => h.setPort) h

theorem KeepsAqu.partnerReplaced {c : PartnerCfg} : KeepsAqu s (t.partnerReplaced j c) := by
  unfold State.partnerReplaced
  dsimp only
  split
  · exact h.setLink.setPort.log.feeders (FeederActs.refl _).clearSections.handLinkLost
  · exact h.setLink.setPort.feeders (FeederActs.refl _).clearSections

theorem KeepsAqu.accepted {b : Bool} {x : Telegram} : KeepsAqu s (t.accepted j b x) :=
  .ite h.setLink.handTelegram h.setLink

theorem KeepsAqu.acceptTest {x : Telegram} : KeepsAqu s (t.acceptTest p x) := by
  unfold State.acceptTest
  split
  · exact h.setPort
  · split
    · exact h
    · exact h.accepted
    · exact h.setPort.accepted

theorem KeepsAqu.linkUpTaken : KeepsAqu s (t.linkUpTaken j) := by
  refine .ite ?_ h
  split
  · exact h.setLink.log.handTelegram
  · exact h

theorem KeepsAqu.forward {x : Telegram} : KeepsAqu s (t.forward p x) := .ite (.ite h.setPort h.queueOn) h.setPort

theorem KeepsAqu.treat {x : Telegram} : KeepsAqu s (t.treat p x) := by
  unfold State.treat
  split
  · exact .ite (.ite h.setPort h) h.queueOn
  · exact .ite h (.ite h.acceptTest h.forward)

theorem KeepsAqu.regain : KeepsAqu s (t.regain p) := .ite h.setPort.log h

theorem KeepsAqu.receive {bytes : List Byte} {b : Bool} : KeepsAqu s (t.receive p bytes b) := by
  refine .ite h ?_
  dsimp only
  split
  · exact h.setPort.setPort
  · exact .ite h.setPort.setPort.regain.treat h.setPort.setPort.regain

theorem KeepsAqu.idleSymbol : KeepsAqu s (t.idleSymbol p) := h.setPort
theorem KeepsAqu.startTestOn {n : Nat} : KeepsAqu s (t.startTestOn p n) := h.setPort.partnersDown.log
theorem KeepsAqu.sendTest : KeepsAqu s (t.sendTest p) := .ite h.setPort.queueOn h

theorem KeepsAqu.echoMissing : KeepsAqu s (t.echoMissing p) := by
  unfold State.echoMissing
  split
  · exact h
  · exact .ite h.setPort h

theorem KeepsAqu.endTest : KeepsAqu s (t.endTest p) := h.setPort.enterSyncing
theorem KeepsAqu.testExpiry : KeepsAqu s (t.testExpiry p) := .ite h.endTest h

-- ===================================================================== terminals (chapter 8)

theorem KeepsAqu.bfbExpiry : KeepsAqu s (t.bfbExpiry k) :=
  .ite (.ite (h.update.reacts (Reacts.refl _).bfbReported) h.update) h

theorem KeepsAqu.terminalChanged : KeepsAqu s (t.terminalChanged i) :=
  .ite (h.setTerm.reacts (Reacts.refl _).handChange).log (h.setTerm.reacts (Reacts.refl _).handChange)

theorem KeepsAqu.sampleTerminal : KeepsAqu s (t.sampleTerminal i) := .ite (.ite h.setTerm h.setTerm.terminalChanged) h
theorem KeepsAqu.sampleTerminals : KeepsAqu s t.sampleTerminals := .foldl terminals16 (fun _ _ h => h.sampleTerminal) h

theorem KeepsAqu.applyTerminal {c : TermCfg} : KeepsAqu s (t.applyTerminal i c) := by
  unfold State.applyTerminal
  dsimp only
  have hl : KeepsAqu s (if t.term[i].cfg.fn = c.fn then t else t.leaveFunction t.term[i].cfg.fn) :=
    .ite h (h.reacts (Reacts.refl _).leaveFunction)
  exact .ite (hl.setTerm.reacts (Reacts.refl _).handFirst) hl.setTerm

theorem KeepsAqu.applyTerminals : KeepsAqu s t.applyTerminals := .foldl terminals16 (fun _ _ h => h.applyTerminal) h

-- ===================================================================== averages and captures (chapter 9)

theorem KeepsAqu.storeTakesFrame : KeepsAqu s t.storeTakesFrame := h.update

theorem KeepsAqu.consume : KeepsAqu s t.consume :=
  (h.storeTakesFrame.feeders (FeederActs.refl _).feedersTakeFrame).station
    (StationActs.refl _).groupsTakeFrame.stationTakesFrame

theorem KeepsAqu.averageTaken : KeepsAqu s t.averageTaken := .ite h.update h

theorem KeepsAqu.armTest : KeepsAqu s t.armTest := by
  obtain ⟨c, hc⟩ := armTest_spec t
  rw [hc]
  exact h.update

theorem KeepsAqu.captureTaken : KeepsAqu s t.captureTaken := by
  unfold State.captureTaken
  split
  · exact h
  · rename_i b _
    obtain ⟨c, hc⟩ := completeCapture_spec b t
    rw [hc]
    exact h.update

theorem KeepsAqu.stopLive {b : BufId} : KeepsAqu s (t.stopLive b) := by
  have he : KeepsAqu s (t.endLive b .stopped) := h.update
  exact .ite he.armTest he

theorem KeepsAqu.enableCaptureTaken : KeepsAqu s t.enableCaptureTaken :=
  (h.update (u := { t with cap := { t.cap with enabled := true } })).armTest

theorem KeepsAqu.disableCaptureTaken : KeepsAqu s t.disableCaptureTaken := by
  unfold State.disableCaptureTaken
  dsimp only
  split <;> exact h.update

theorem KeepsAqu.releaseTaken {b : BufId} : KeepsAqu s (t.releaseTaken b) :=
  (h.update (u := { t with cap := t.cap.setBuf b .idle })).armTest

-- ===================================================================== settings (chapter 11)

theorem KeepsAqu.handRecord {c : Settings} {id : RecId} : KeepsAqu s (t.handRecord c id) := by
  cases id with
  | station => exact h.station (StationActs.refl _).stationReplaced
  | sectionRec k => exact h.feeders (FeederActs.refl _).sectionReplaced
  | partner j => exact h.partnerReplaced
  | terminal i => exact h.applyTerminal
  | general _ | groupA _ | groupB _ | capture => exact h

theorem KeepsAqu.replaceRecord {c : Settings} {id : RecId} : KeepsAqu s (t.replaceRecord c id) :=
  (h.update (u := { t.setLive c with sst := { (t.setLive c).sst with
    confirm := (t.setLive c).sst.confirm || (t.setLive c).sst.lost } })).handRecord

theorem KeepsAqu.writeRecord {id : RecId} {bytes : List Byte} : KeepsAqu s (t.writeRecord id bytes) := h.replaceRecord

theorem KeepsAqu.defaultsTaken : KeepsAqu s t.defaultsTaken := .foldl RecId.all (fun _ _ h => h.replaceRecord) h

theorem KeepsAqu.loadDone : KeepsAqu s t.loadDone := by
  refine .ite ?_ h
  dsimp only
  split <;> exact h.update

theorem KeepsAqu.storeDone : KeepsAqu s t.storeDone := by
  unfold State.storeDone
  split
  · exact h.update
  · exact h

theorem KeepsAqu.startTaken : KeepsAqu s t.startTaken := by
  refine .ite ?_ h
  have ha := (h.feeders (FeederActs.refl _).adoptAll).setSts (r := { t.adoptAll.sts with complete := true })
  exact (KeepsAqu.ite (ha.station (StationActs.refl _).changeMode) ha).setSts.applyTerminals

-- ===================================================================== requests (chapter 10)

theorem KeepsAqu.withLength {n : Nat} {pl : List Byte} {a : Answer} (ha : KeepsAqu s a.state) :
    KeepsAqu s (withLength n pl t a).state := by
  unfold Machine.withLength
  split
  · exact ha
  · exact h

theorem KeepsAqu.withArg {α : Type} {n : Nat} {pl : List Byte} {x : Option α} {f : α → Answer}
    (hf : ∀ a, KeepsAqu s (f a).state) : KeepsAqu s (withArg n pl x t f).state := by
  refine h.withLength ?_
  split
  · exact hf _
  · exact h

variable {pl : List Byte}

theorem KeepsAqu.answerReadStationStatus : KeepsAqu s (t.answerReadStationStatus pl).state := h.withLength h

theorem KeepsAqu.answerRunStation : KeepsAqu s (t.answerRunStation pl).state :=
  h.withLength (.answerIte h (.answerIte (h.station (StationActs.refl _).runTaken) h))

theorem KeepsAqu.answerStandbyStation : KeepsAqu s (t.answerStandbyStation pl).state :=
  h.withLength (.answerIte (h.station (StationActs.refl _).standbyTaken) h)

theorem KeepsAqu.answerResumeStation : KeepsAqu s (t.answerResumeStation pl).state := by
  refine h.withLength (.answerIte ?_ h)
  rw [ok_state]
  exact h.reacts (Reacts.refl _).resume

theorem KeepsAqu.answerSetTime : KeepsAqu s (t.answerSetTime pl).state := h.withLength h.update
theorem KeepsAqu.answerRestart : KeepsAqu s (t.answerRestart pl).state := h.withLength h.update

theorem KeepsAqu.answerResetRail : KeepsAqu s (t.answerResetRail pl).state :=
  h.withLength (.answerIte h (.answerIte h (.answerIte (h.station (StationActs.refl _).railReset) h)))

theorem KeepsAqu.answerReadMeasurements : KeepsAqu s (t.answerReadMeasurements pl).state := h.withLength h
theorem KeepsAqu.answerReadEnergy : KeepsAqu s (t.answerReadEnergy pl).state := h.withLength h
theorem KeepsAqu.answerReadFeeder : KeepsAqu s (t.answerReadFeeder pl).state := h.withArg fun _ => h

theorem KeepsAqu.answerCloseFeeder : KeepsAqu s (t.answerCloseFeeder pl).state :=
  h.withArg fun _ => .answerIte (h.feeders (FeederActs.refl _).closeAccepted) h

theorem KeepsAqu.answerOpenFeeder : KeepsAqu s (t.answerOpenFeeder pl).state := by
  refine h.withArg fun k => ?_
  split
  · exact h.feeders ((FeederActs.refl _).openRequest ‹_›)
  · exact h

theorem KeepsAqu.answerResetFeeder : KeepsAqu s (t.answerResetFeeder pl).state :=
  h.withArg fun _ => .answerIte (h.feeders (FeederActs.refl _).resetAccepted) h

theorem KeepsAqu.answerBlockFeeder : KeepsAqu s (t.answerBlockFeeder pl).state := by
  refine h.withArg fun k => ?_
  split
  · exact h.feeders ((FeederActs.refl _).blockRequest ‹_›)
  · exact h

theorem KeepsAqu.answerUnblockFeeder : KeepsAqu s (t.answerUnblockFeeder pl).state :=
  h.withArg fun _ => .answerIte (h.feeders (FeederActs.refl _).enterOpen) h

theorem KeepsAqu.answerReadGroups : KeepsAqu s (t.answerReadGroups pl).state := h.withLength h

theorem KeepsAqu.answerEnableGroup : KeepsAqu s (t.answerEnableGroup pl).state :=
  h.withArg fun _ => .answerIte (h.station (StationActs.refl _).enableTaken) h

theorem KeepsAqu.answerDisableGroup : KeepsAqu s (t.answerDisableGroup pl).state :=
  h.withArg fun _ => .answerIte h (h.station (StationActs.refl _).disableTaken)

theorem KeepsAqu.answerResetGroup : KeepsAqu s (t.answerResetGroup pl).state :=
  h.withArg fun _ => .answerIte (h.station (StationActs.refl _).resetTaken) h

theorem KeepsAqu.answerSetVoltage : KeepsAqu s (t.answerSetVoltage pl).state := h.withLength (.answerIte h h.update)
theorem KeepsAqu.answerReadSections : KeepsAqu s (t.answerReadSections pl).state := h.withLength h
theorem KeepsAqu.answerReadLink : KeepsAqu s (t.answerReadLink pl).state := h.withArg fun _ => h.setPort

theorem KeepsAqu.startTestRequest {n : Nat} : KeepsAqu s (t.startTestRequest p n).state := by
  refine .answerIte h ?_
  split
  · exact h
  · exact h.startTestOn

theorem KeepsAqu.answerStartLinkTest : KeepsAqu s (t.answerStartLinkTest pl).state :=
  h.withArg fun _ => .answerIte h.startTestRequest h

theorem KeepsAqu.answerStopLinkTest : KeepsAqu s (t.answerStopLinkTest pl).state :=
  h.withArg fun _ => .answerIte h.endTest h

theorem KeepsAqu.withRecord {x y : Byte} {f : RecId → Answer} (hf : ∀ id, KeepsAqu s (f id).state) :
    KeepsAqu s (t.withRecord x y f).state := by
  unfold State.withRecord
  split
  · exact h
  · exact h
  · exact hf _

theorem KeepsAqu.answerReadSetting : KeepsAqu s (t.answerReadSetting pl).state := by
  unfold State.answerReadSetting
  split
  · exact h.withRecord fun _ => h
  · exact h

theorem KeepsAqu.writeRequest {x y : Byte} {bytes : List Byte} {id : RecId} :
    KeepsAqu s (t.writeRequest x y bytes id).state := by
  refine .answerIte h ?_
  split
  · exact h
  · split
    · exact h
    · exact h.writeRecord

theorem KeepsAqu.answerWriteSetting : KeepsAqu s (t.answerWriteSetting pl).state := by
  refine .answerIte ?_ h
  split
  · exact h.withRecord fun _ => h.writeRequest
  · exact h

theorem KeepsAqu.answerStoreSettings : KeepsAqu s (t.answerStoreSettings pl).state :=
  h.withLength (.answerIte h h.update)

theorem KeepsAqu.answerLoadDefaults : KeepsAqu s (t.answerLoadDefaults pl).state :=
  h.withLength (.answerIte h (.answerIte h.defaultsTaken h))

theorem KeepsAqu.answerCountEvents : KeepsAqu s (t.answerCountEvents pl).state := h.withLength h
theorem KeepsAqu.answerTakeEvents : KeepsAqu s (t.answerTakeEvents pl).state := h.withLength (.answerIte h.update h)
theorem KeepsAqu.answerReadCaptureStatus : KeepsAqu s (t.answerReadCaptureStatus pl).state := h.withLength h

theorem KeepsAqu.answerReadCapture : KeepsAqu s (t.answerReadCapture pl).state :=
  h.withArg fun _ => .answerIte h (.answerIte h (.answerIte h (.answerIte h h)))

theorem KeepsAqu.answerReleaseCapture : KeepsAqu s (t.answerReleaseCapture pl).state :=
  h.withArg fun _ => .answerIte h.releaseTaken h

theorem KeepsAqu.answerStopCapture : KeepsAqu s (t.answerStopCapture pl).state := by
  refine h.withLength ?_
  split
  · exact h.stopLive
  · exact h

theorem KeepsAqu.answerTriggerCapture : KeepsAqu s (t.answerTriggerCapture pl).state :=
  h.withLength (h.feeders (FeederActs.refl _).trigger)

theorem KeepsAqu.answerEnableCapture : KeepsAqu s (t.answerEnableCapture pl).state := h.withLength h.enableCaptureTaken
theorem KeepsAqu.answerDisableCapture : KeepsAqu s (t.answerDisableCapture pl).state :=
  h.withLength h.disableCaptureTaken
theorem KeepsAqu.answerReadTerminals : KeepsAqu s (t.answerReadTerminals pl).state := h.withLength h.update

theorem KeepsAqu.answerSetOutput : KeepsAqu s (t.answerSetOutput pl).state := by
  refine h.withArg fun i => ?_
  split
  · exact .answerIte h.setTerm h
  · exact h

/-- A request of any kind (R200). -/
theorem KeepsAqu.judge {kind : Byte} : KeepsAqu s (t.judge kind pl).state := by
  unfold State.judge
  split
  · exact h.answerReadStationStatus
  · exact h.answerRunStation
  · exact h.answerStandbyStation
  · exact h.answerResumeStation
  · exact h.answerSetTime
  · exact h.answerRestart
  · exact h.answerResetRail
  · exact h.answerReadMeasurements
  · exact h.answerReadEnergy
  · exact h.answerReadFeeder
  · exact h.answerCloseFeeder
  · exact h.answerOpenFeeder
  · exact h.answerResetFeeder
  · exact h.answerBlockFeeder
  · exact h.answerUnblockFeeder
  · exact h.answerReadGroups
  · exact h.answerEnableGroup
  · exact h.answerDisableGroup
  · exact h.answerResetGroup
  · exact h.answerSetVoltage
  · exact h.answerReadSections
  · exact h.answerReadLink
  · exact h.answerStartLinkTest
  · exact h.answerStopLinkTest
  · exact h.answerReadSetting
  · exact h.answerWriteSetting
  · exact h.answerStoreSettings
  · exact h.answerLoadDefaults
  · exact h.answerCountEvents
  · exact h.answerTakeEvents
  · exact h.answerReadCaptureStatus
  · exact h.answerReadCapture
  · exact h.answerReleaseCapture
  · exact h.answerStopCapture
  · exact h.answerTriggerCapture
  · exact h.answerEnableCapture
  · exact h.answerDisableCapture
  · exact h.answerReadTerminals
  · exact h.answerSetOutput
  · exact h

theorem KeepsAqu.takeRequest {kind tag : Byte} {answer : State → Answer}
    (ha : ∀ u, KeepsAqu s u → KeepsAqu s (answer u).state) : KeepsAqu s (t.takeRequest kind tag answer) := by
  refine .ite h.hostHeard ?_
  split
  · exact (ha _ h.hostHeard).setCmp
  · exact h.hostHeard.setCmp
  · exact h.hostHeard

/-- A request command leaves the unit alone where its answer does. -/
theorem KeepsAqu.request {kind tag : Byte} {answer : State → Answer}
    (ha : ∀ u, KeepsAqu s u → KeepsAqu s (answer u).state) : KeepsAqu s (t.request kind tag pl answer) :=
  .ite (h.setCmp.takeRequest ha) h.setCmp

theorem KeepsAqu.frameEnd {rx : List Byte} : KeepsAqu s (t.frameEnd rx) := by
  refine .ite ?_ h.setCmp
  split
  · exact h.setCmp.takeRequest fun _ hu => hu.judge
  · exact h.setCmp

theorem KeepsAqu.character {c : Byte} : KeepsAqu s (t.character c) :=
  .ite (.ite h.setCmp h) (.ite h.setCmp (.ite h.setCmp (.ite h.setCmp h.frameEnd)))

theorem KeepsAqu.characters {cs : List Byte} : KeepsAqu s (t.characters cs) := by
  induction cs generalizing t with
  | nil => exact h
  | cons c rest ih => exact ih h.character

theorem KeepsAqu.abandon {how : Abandon} : KeepsAqu s (t.abandon how) := by
  cases how with
  | lateCharacter c => exact KeepsAqu.character (t := t.hunt) h.setCmp
  | missingStopBit => exact h.setCmp

end operations

end Sys2Proof.Proofs
end

section
/-! Chapter 1: conversions, the frame trigger and the clock supervisor, and that every value held, pending or published
lies in its channel's range after every command. -/
namespace Sys2Proof.Proofs

open Sys2Proof Sys2Proof.Machine Sys2Proof.Laws

/-- A function on every component, read at one. -/
@[simp] theorem getElem_vmap {α β : Type} {n : Nat} (f : α → β) (v : Vector α n) (i : Nat) (hi : i < n) :
    (vmap f v)[i] = f v[i] := by simp [vmap]

-- ===================================================================== values in range (R2, R3)

theorem channelRange_le (c : Fin 17) : (channelRange c).1 ≤ (channelRange c).2 := by
  revert c
  decide

/-- Truncation and the three outcomes of the clamp (R2, R3). -/
theorem convert_spec (c : Fin 17) (milli : Int) :
    ((convert c milli).2 = false ∧ (convert c milli).1 = milli.tdiv 1000 ∧ InRange c (convert c milli).1) ∨
    ((convert c milli).2 = true ∧ (convert c milli).1 = (channelRange c).1 ∧ milli.tdiv 1000 < (channelRange c).1) ∨
    ((convert c milli).2 = true ∧ (convert c milli).1 = (channelRange c).2 ∧
      (channelRange c).2 < milli.tdiv 1000) := by
  unfold convert
  dsimp only
  split
  · exact .inr (.inl ⟨rfl, rfl, ‹_›⟩)
  · split
    · exact .inr (.inr ⟨rfl, rfl, ‹_›⟩)
    · exact .inl ⟨rfl, rfl, by simp only [InRange]; omega⟩

theorem convert_inRange (c : Fin 17) (milli : Int) : InRange c (convert c milli).1 := by
  have hle := channelRange_le c
  obtain ⟨_, _, h⟩ | ⟨_, h, _⟩ | ⟨_, h, _⟩ := convert_spec c milli
  · exact h
  · rw [h]; exact ⟨le_refl _, hle⟩
  · rw [h]; exact ⟨hle, le_refl _⟩

/-- The values a channel's record holds lie in the range of channel c. -/
def ChannelInRange (c : Fin 17) (r : Channel) : Prop := InRange c r.held ∧ ∀ x, r.result = some x → InRange c x.1

/-- The range invariant, as one of the channels and of the record published. -/
structure ValuesInRange (s : State) : Prop where
  channel : ∀ c : Fin 17, ChannelInRange c s.aqu.channels[c]
  reading : ∀ c : Fin 17, InRange c s.aqu.latest.readings[c].value

theorem valuesInRange_iff (s : State) : ValuesInRange s ↔ ChannelsInRange s :=
  ⟨fun h c => ⟨(h.channel c).1, (h.channel c).2, h.reading c⟩,
    fun h => ⟨fun c => ⟨(h c).1, (h c).2.1⟩, fun c => (h c).2.2⟩⟩

variable {s t : State}

theorem ValuesInRange.keep (h : ValuesInRange s) (hk : KeepsAqu s t) : ValuesInRange t :=
  ⟨hk.aqu ▸ h.channel, hk.aqu ▸ h.reading⟩

/-- A channel's record is replaced by one in range. -/
theorem ValuesInRange.setChannel {c : Fin 17} {r : Channel} (h : ValuesInRange s) (hr : ChannelInRange c r) :
    ValuesInRange (s.setChannel c r) := by
  refine ⟨fun d => ?_, h.reading⟩
  simp only [State.setChannel_channels, Fin.getElem_fin, Vector.getElem_set]
  split
  next he => rw [← Fin.ext he]; exact hr
  next => exact h.channel d

/-- Every channel's record is changed by a function that keeps each in range. -/
theorem ChannelInRange.vmap {f : Channel → Channel} {v : Vector Channel 17}
    (hf : ∀ c r, ChannelInRange c r → ChannelInRange c (f r)) (hv : ∀ c : Fin 17, ChannelInRange c v[c]) (c : Fin 17) :
    ChannelInRange c (vmap f v)[c] := by
  simp only [Fin.getElem_fin, getElem_vmap]
  exact hf c _ (hv c)

theorem ValuesInRange.conversionDone {c : Fin 17} {n : Word32} {m : Int} (h : ValuesInRange s) :
    ValuesInRange (s.conversionDone c n m) := by
  unfold State.conversionDone
  dsimp only
  split
  · refine h.setChannel ⟨(h.channel c).1, fun x hx => ?_⟩
    obtain rfl := Option.some.inj hx
    exact convert_inRange c m
  · exact h

-- ===================================================================== the frame trigger (R4, R5)

/-- At the trigger that ends a frame a channel holds the value it publishes: its completed result, or the value it held;
its conversion starts again. -/
theorem treat_spec (r : Channel) :
    r.treat.1.result = none ∧ r.treat.2.value = r.treat.1.held ∧
    r.treat.1.held = (match r.result with | some x => x.1 | none => r.held) := by
  cases hres : r.result <;> by_cases hf : r.health = .failed <;> simp [Channel.treat, hres, hf, Channel.reading]

theorem treat_inRange {c : Fin 17} {r : Channel} (h : ChannelInRange c r) :
    ChannelInRange c r.treat.1 ∧ InRange c r.treat.2.value := by
  obtain ⟨hres, hval, hheld⟩ := treat_spec r
  have hr : InRange c r.treat.1.held := by
    rw [hheld]
    split
    next x hx => exact h.2 x hx
    next => exact h.1
  exact ⟨⟨hr, fun x hx => by simp [hres] at hx⟩, hval ▸ hr⟩

theorem ValuesInRange.publish (h : ValuesInRange s) : ValuesInRange { s with aqu := s.aqu.publish } := by
  exact ⟨fun c => by simpa [Aqu.publish] using (treat_inRange (h.channel c)).1,
    fun c => by simpa [Aqu.publish] using (treat_inRange (h.channel c)).2⟩

theorem ValuesInRange.frame {lines : BitVec 16} (h : ValuesInRange s) : ValuesInRange (s.frame lines) := by
  unfold State.frame
  split
  · have hs : KeepsAqu s ({ s.advance 250 with lines := lines } : State).sampleTerminals :=
      ((KeepsAqu.refl s).advance.update (u := { s.advance 250 with lines := lines })).sampleTerminals
    exact (h.keep hs).publish.keep (KeepsAqu.refl _).consume
  · exact h

-- ===================================================================== failure and restoration (R8, R10, R11)

theorem ValuesInRange.channelFailTaken {c : Fin 17} (h : ValuesInRange s) :
    ValuesInRange (s.channelFailTaken c) := by
  unfold State.channelFailTaken
  split
  · have hs := h.setChannel (r := { s.aqu.channels[c] with health := .failed, staleRun := 0, goodRun := 0 })
      (h.channel c)
    exact hs.keep ((KeepsAqu.refl _).log.reacts (Reacts.refl _).handFailure)
  · exact h

theorem ValuesInRange.channelRestoredTaken {c : Fin 17} (h : ValuesInRange s) :
    ValuesInRange (s.channelRestoredTaken c) := by
  unfold State.channelRestoredTaken
  split
  · have hs := h.setChannel (r := { s.aqu.channels[c] with health := .good, staleRun := 0, goodRun := 0 })
      (h.channel c)
    exact hs.keep ((KeepsAqu.refl _).log.station (StationActs.refl _).handRestoration)
  · exact h

-- ===================================================================== the clock supervisor (R12..R16)

/-- The judgement of a window leaves the channels and the record published. -/
theorem judge_channels (a : Aqu) (n : Nat) : (a.judge n).channels = a.channels ∧ (a.judge n).latest = a.latest := by
  unfold Aqu.judge
  split <;> exact ⟨rfl, rfl⟩

theorem ValuesInRange.window {w : Window} (h : ValuesInRange s) : ValuesInRange (s.window w) := by
  have hs : ValuesInRange (if s.aqu.clock = .good then s else s.advance 100) :=
    h.keep (.ite (.refl s) (KeepsAqu.refl s).advance)
  obtain ⟨hc, hl⟩ := judge_channels (if s.aqu.clock = .good then s else s.advance 100).aqu w.periods
  exact ⟨fun c => by simpa only [State.window, hc] using hs.channel c,
    fun c => by simpa only [State.window, hl] using hs.reading c⟩

/-- A clock failure abandons the conversion and leaves the value held (R14). -/
theorem stopClock_spec (r : Channel) :
    r.stopClock.converting = false ∧ r.stopClock.result = none ∧ r.stopClock.held = r.held ∧
    (r.health = .failed → r.stopClock.health = .failed ∧ r.stopClock.goodRun = 0) ∧
    (r.health ≠ .failed → r.stopClock.health = .stale ∧ r.stopClock.staleRun = 0) := by
  unfold Channel.stopClock
  by_cases h : r.health = .failed <;> simp [h]

theorem markStale_spec (r : Reading) : r.markStale.value = r.value ∧ r.markStale.health ≠ .good := by
  unfold Reading.markStale
  split
  · exact ⟨rfl, by simp⟩
  · exact ⟨rfl, ‹_›⟩

theorem ValuesInRange.enterFail (h : ValuesInRange s) : ValuesInRange { s with aqu := s.aqu.enterFail } := by
  refine ⟨fun c => ChannelInRange.vmap (fun d r hr => ?_) h.channel c, fun c => ?_⟩
  · obtain ⟨_, hres, hheld, _⟩ := stopClock_spec r
    exact ⟨hheld ▸ hr.1, fun x hx => by simp [hres] at hx⟩
  · simpa [Aqu.enterFail, (markStale_spec _).1] using h.reading c

theorem ValuesInRange.enterGood (h : ValuesInRange s) : ValuesInRange { s with aqu := s.aqu.enterGood } :=
  ⟨ChannelInRange.vmap (f := fun r => { r with converting := true, result := none })
    (fun _ _ hr => ⟨hr.1, fun _ hx => by cases hx⟩) h.channel, h.reading⟩

theorem ValuesInRange.clockFailTaken (h : ValuesInRange s) : ValuesInRange s.clockFailTaken := by
  unfold State.clockFailTaken
  split
  · exact h.enterFail.keep ((KeepsAqu.foldl groups2 (fun _ _ hk => hk.syncClockFail) (.refl _)).reacts
      (Reacts.refl _).causePresent)
  · exact h

theorem KeepsAqu.readStraps (h : KeepsAqu s t) : KeepsAqu s t.readStraps := by
  unfold State.readStraps
  split
  · exact h
  · exact .ite h.setSts.disablePorts h.setSts

theorem ValuesInRange.clockGoodTaken (h : ValuesInRange s) : ValuesInRange s.clockGoodTaken := by
  unfold State.clockGoodTaken
  split
  · exact h.enterGood.keep ((KeepsAqu.refl _).station (StationActs.refl _).causeCleared).readStraps
  · exact h

-- ===================================================================== every command

theorem ValuesInRange.foldl {α : Type} {f : State → α → State} (l : List α)
    (hf : ∀ a t, ValuesInRange t → ValuesInRange (f t a)) (h : ValuesInRange s) :
    ValuesInRange (l.foldl f s) := by
  induction l generalizing s with
  | nil => exact h
  | cons a l ih => exact ih (hf a s h)

/-- The internal steps of the acquisition unit keep the ranges, and the others leave the unit alone. -/
theorem ValuesInRange.settle (h : ValuesInRange s) : ValuesInRange s.settle :=
  have hf := ValuesInRange.foldl (f := fun s c => s.channelFailTaken c) channels17 (fun _ _ h => h.channelFailTaken)
    h.clockFailTaken.clockGoodTaken
  have hr := ValuesInRange.foldl (f := fun s c => s.channelRestoredTaken c) channels17
    (fun _ _ h => h.channelRestoredTaken) hf
  have ks := KeepsAqu.foldl (f := fun s k => s.sotfTaken k) feeders6
    (fun _ _ h => h.feeders (FeederActs.refl _).sotfTaken) (.refl _)
  have kt := KeepsAqu.foldl (f := fun s k => s.testWindowTaken k) feeders6
    (fun _ _ h => h.feeders (FeederActs.refl _).testWindowTaken) ks
  have ku := KeepsAqu.foldl (f := fun s j => s.linkUpTaken j) partners4 (fun _ _ h => h.linkUpTaken) kt
  have kp := KeepsAqu.foldl (f := fun s p => s.syncLossTaken p) ports2 (fun _ _ h => h.syncLossTaken) ku
  have kl := KeepsAqu.foldl (f := fun s k => s.liveClose k) feeders6
    (fun _ _ h => h.feeders (FeederActs.refl _).liveClose) kp
  have ky := KeepsAqu.foldl (f := fun s g => s.syncChange g) groups2 (fun _ _ h => h.syncChange) kl
  have ko := KeepsAqu.foldl (f := fun s g => s.overcurrentTaken g) groups2
    (fun _ _ h => h.station (StationActs.refl _).overcurrentTaken) ky
  hr.keep ((ko.reacts (Reacts.refl _).frameFaultTaken).station
    (StationActs.refl _).railOperate).averageTaken.captureTaken.startTaken

theorem valuesInRange_reset : ValuesInRange State.reset := by
  have h0 : ∀ c : Fin 17, (channelRange c).1 ≤ 0 ∧ 0 ≤ (channelRange c).2 := by decide
  constructor <;> intro c <;> simp only [State.reset, Aqu.reset, Fin.getElem_fin, Vector.getElem_replicate]
  · exact ⟨h0 c, fun x hx => by cases hx⟩
  · exact h0 c

/-- A reset leaves the reset state's acquisition unit (R17). -/
theorem valuesInRange_afterReset (c : RestartCause) (straps : Byte) (s : State) :
    ValuesInRange (s.afterReset c straps) :=
  ⟨valuesInRange_reset.channel, valuesInRange_reset.reading⟩

theorem ValuesInRange.replyDone (h : ValuesInRange s) : ValuesInRange s.replyDone := by
  unfold State.replyDone
  split
  · exact h
  · split
    · exact valuesInRange_afterReset _ _ _
    · split <;> exact h.keep (KeepsAqu.refl s).setCmp

/-- Every command from outside but those of chapter 1 settles, and leaves the acquisition unit alone. -/
theorem ValuesInRange.outside (h : ValuesInRange s) (hk : KeepsAqu s.settle t) : ValuesInRange t :=
  h.settle.keep hk

/-- A request settles, and is then answered. -/
theorem ValuesInRange.request {kind tag : Byte} {pl : List Byte} {answer : State → Answer} (h : ValuesInRange s)
    (ha : ∀ u, KeepsAqu s.settle u → KeepsAqu s.settle (answer u).state) :
    ValuesInRange (s.settle.request kind tag pl answer) := h.outside ((KeepsAqu.refl _).request ha)

theorem exec_valuesInRange (c : Instr) (s : State) (h : ValuesInRange s) :
    ∃ t, exec c s = .next t ∧ ValuesInRange t := by
  have k := KeepsAqu.refl s.settle
  cases c with
  | powerOn straps => exact ⟨_, rfl, valuesInRange_afterReset _ _ _⟩
  | resetPin straps => exact ⟨_, rfl, valuesInRange_afterReset _ _ _⟩
  | frameTrigger lines => exact ⟨_, rfl, h.settle.frame⟩
  | conversionComplete c r => exact ⟨_, rfl, h.settle.conversionDone⟩
  | channelFail c => exact ⟨_, rfl, h.channelFailTaken⟩
  | channelRestored c => exact ⟨_, rfl, h.channelRestoredTaken⟩
  | clockWindowEnd w => exact ⟨_, rfl, h.settle.window⟩
  | clockFail => exact ⟨_, rfl, h.clockFailTaken⟩
  | clockGood => exact ⟨_, rfl, h.clockGoodTaken⟩
  | sotfWindowEnd k => exact ⟨_, rfl, h.keep ((KeepsAqu.refl s).feeders (FeederActs.refl _).sotfTaken)⟩
  | bfbRawChange _ _ => exact ⟨_, rfl, h.outside k.setBfb⟩
  | bfbFilterExpiry _ => exact ⟨_, rfl, h.outside k.bfbExpiry⟩
  | closeTimerExpiry _ => exact ⟨_, rfl, h.outside (k.feeders (FeederActs.refl _).closeExpiry)⟩
  | openTimerExpiry _ => exact ⟨_, rfl, h.outside (k.reacts (Reacts.refl _).openExpiry)⟩
  | deadTimeExpiry _ => exact ⟨_, rfl, h.outside (k.feeders (FeederActs.refl _).deadExpiry)⟩
  | reclaimExpiry _ => exact ⟨_, rfl, h.outside (k.feeders (FeederActs.refl _).reclaimDone)⟩
  | settleExpiry _ => exact ⟨_, rfl, h.outside (k.feeders (FeederActs.refl _).settleDone)⟩
  | lineTestWindowComplete _ =>
    exact ⟨_, rfl, h.keep ((KeepsAqu.refl s).feeders (FeederActs.refl _).testWindowTaken)⟩
  | retryExpiry _ => exact ⟨_, rfl, h.outside (k.feeders (FeederActs.refl _).retryDone)⟩
  | tWaitExpiry _ => exact ⟨_, rfl, h.outside (k.feeders (FeederActs.refl _).waitDone)⟩
  | liveLine _ => exact ⟨_, rfl, h.keep ((KeepsAqu.refl s).feeders (FeederActs.refl _).liveClose)⟩
  | closeFeeder _ _ => exact ⟨_, rfl, h.request fun _ hu => hu.answerCloseFeeder⟩
  | openFeeder _ _ => exact ⟨_, rfl, h.request fun _ hu => hu.answerOpenFeeder⟩
  | resetFeeder _ _ => exact ⟨_, rfl, h.request fun _ hu => hu.answerResetFeeder⟩
  | blockFeeder _ _ => exact ⟨_, rfl, h.request fun _ hu => hu.answerBlockFeeder⟩
  | unblockFeeder _ _ => exact ⟨_, rfl, h.request fun _ hu => hu.answerUnblockFeeder⟩
  | readFeeder _ _ => exact ⟨_, rfl, h.request fun _ hu => hu.answerReadFeeder⟩
  | telegramReceived _ _ _ => exact ⟨_, rfl, h.outside k.receive⟩
  | linkUp _ => exact ⟨_, rfl, h.keep (KeepsAqu.refl s).linkUpTaken⟩
  | portSyncLoss p =>
    by_cases hd : s.syncLossDue p = true
    · exact ⟨s.syncLoss p, by simp [exec, execPortSyncLoss, hd], h.keep (KeepsAqu.refl s).syncLoss⟩
    · exact ⟨s.settle.syncLoss p, by simp [exec, execPortSyncLoss, hd], h.outside k.syncLoss⟩
  | telegramPeriod => exact ⟨_, rfl, h.outside k.telegramPeriodTaken⟩
  | transmissionEnd _ => exact ⟨_, rfl, h.outside k.transmissionDone⟩
  | partnerTimeout _ => exact ⟨_, rfl, h.outside k.partnerExpiry⟩
  | testTelegramPeriod _ => exact ⟨_, rfl, h.outside k.sendTest⟩
  | testEchoTimeout _ => exact ⟨_, rfl, h.outside k.echoMissing⟩
  | linkTestExpiry _ => exact ⟨_, rfl, h.outside k.testExpiry⟩
  | readLink _ _ => exact ⟨_, rfl, h.request fun _ hu => hu.answerReadLink⟩
  | startLinkTest _ _ => exact ⟨_, rfl, h.request fun _ hu => hu.answerStartLinkTest⟩
  | stopLinkTest _ _ => exact ⟨_, rfl, h.request fun _ hu => hu.answerStopLinkTest⟩
  | readSections _ _ => exact ⟨_, rfl, h.request fun _ hu => hu.answerReadSections⟩
  | syncCrossing _ _ _ => exact ⟨_, rfl, h.outside k.crossing⟩
  | crossingTimerExpiry _ => exact ⟨_, rfl, h.outside k.crossingExpiry⟩
  | syncStateChange _ => exact ⟨_, rfl, h.keep (KeepsAqu.refl s).syncChange⟩
  | firingInstant _ _ => exact ⟨_, rfl, h.outside (k.station (StationActs.refl _).fire)⟩
  | firingPulseEnd _ => exact ⟨_, rfl, h.outside (k.station (StationActs.refl _).pulseEnd)⟩
  | overcurrent _ => exact ⟨_, rfl, h.keep ((KeepsAqu.refl s).station (StationActs.refl _).overcurrentTaken)⟩
  | restartDelayExpiry _ => exact ⟨_, rfl, h.outside (k.station (StationActs.refl _).restartExpiry)⟩
  | restartHistoryAgeing _ => exact ⟨_, rfl, h.outside (k.station (StationActs.refl _).restartAged)⟩
  | enableGroup _ _ => exact ⟨_, rfl, h.request fun _ hu => hu.answerEnableGroup⟩
  | disableGroup _ _ => exact ⟨_, rfl, h.request fun _ hu => hu.answerDisableGroup⟩
  | resetGroup _ _ => exact ⟨_, rfl, h.request fun _ hu => hu.answerResetGroup⟩
  | setVoltage _ _ => exact ⟨_, rfl, h.request fun _ hu => hu.answerSetVoltage⟩
  | readGroups _ _ => exact ⟨_, rfl, h.request fun _ hu => hu.answerReadGroups⟩
  | settingsLoadComplete => exact ⟨_, rfl, h.outside k.loadDone⟩
  | startComplete => exact ⟨_, rfl, h.keep (KeepsAqu.refl s).startTaken⟩
  | frameFault => exact ⟨_, rfl, h.keep ((KeepsAqu.refl s).reacts (Reacts.refl _).frameFaultTaken)⟩
  | railEarthOperate => exact ⟨_, rfl, h.keep ((KeepsAqu.refl s).station (StationActs.refl _).railOperate)⟩
  | railHoldExpiry => exact ⟨_, rfl, h.outside (k.station (StationActs.refl _).holdExpiry)⟩
  | railHistoryAgeing => exact ⟨_, rfl, h.outside (k.station (StationActs.refl _).railAged)⟩
  | resetRailEarthing _ _ => exact ⟨_, rfl, h.request fun _ hu => hu.answerResetRail⟩
  | hostSupervisionExpiry => exact ⟨_, rfl, h.outside k.hostLost⟩
  | readStationStatus _ _ => exact ⟨_, rfl, h.request fun _ hu => hu.answerReadStationStatus⟩
  | runStation _ _ => exact ⟨_, rfl, h.request fun _ hu => hu.answerRunStation⟩
  | standbyStation _ _ => exact ⟨_, rfl, h.request fun _ hu => hu.answerStandbyStation⟩
  | resumeStation _ _ => exact ⟨_, rfl, h.request fun _ hu => hu.answerResumeStation⟩
  | setTime _ _ => exact ⟨_, rfl, h.request fun _ hu => hu.answerSetTime⟩
  | restart _ _ => exact ⟨_, rfl, h.request fun _ hu => hu.answerRestart⟩
  | throughSourceChange _ _ => exact ⟨_, rfl, h.outside k.setLine⟩
  | setOutput _ _ => exact ⟨_, rfl, h.request fun _ hu => hu.answerSetOutput⟩
  | readTerminals _ _ => exact ⟨_, rfl, h.request fun _ hu => hu.answerReadTerminals⟩
  | countEvents _ _ => exact ⟨_, rfl, h.request fun _ hu => hu.answerCountEvents⟩
  | takeEvents _ _ => exact ⟨_, rfl, h.request fun _ hu => hu.answerTakeEvents⟩
  | averagePeriodComplete => exact ⟨_, rfl, h.keep (KeepsAqu.refl s).averageTaken⟩
  | readMeasurements _ _ => exact ⟨_, rfl, h.request fun _ hu => hu.answerReadMeasurements⟩
  | readEnergy _ _ => exact ⟨_, rfl, h.request fun _ hu => hu.answerReadEnergy⟩
  | captureComplete => exact ⟨_, rfl, h.keep (KeepsAqu.refl s).captureTaken⟩
  | readCaptureStatus _ _ => exact ⟨_, rfl, h.request fun _ hu => hu.answerReadCaptureStatus⟩
  | readCapture _ _ => exact ⟨_, rfl, h.request fun _ hu => hu.answerReadCapture⟩
  | releaseCapture _ _ => exact ⟨_, rfl, h.request fun _ hu => hu.answerReleaseCapture⟩
  | stopCapture _ _ => exact ⟨_, rfl, h.request fun _ hu => hu.answerStopCapture⟩
  | triggerCapture _ _ => exact ⟨_, rfl, h.request fun _ hu => hu.answerTriggerCapture⟩
  | enableCapture _ _ => exact ⟨_, rfl, h.request fun _ hu => hu.answerEnableCapture⟩
  | disableCapture _ _ => exact ⟨_, rfl, h.request fun _ hu => hu.answerDisableCapture⟩
  | controlFrameDiscarded _ => exact ⟨_, rfl, h.outside k.characters⟩
  | unknownRequest _ _ _ => exact ⟨_, rfl, h.request fun _ hu => hu.judge⟩
  | replySent => exact ⟨_, rfl, h.settle.replyDone⟩
  | readSetting _ _ => exact ⟨_, rfl, h.request fun _ hu => hu.answerReadSetting⟩
  | writeSetting _ _ => exact ⟨_, rfl, h.request fun _ hu => hu.answerWriteSetting⟩
  | storeSettings _ _ => exact ⟨_, rfl, h.request fun _ hu => hu.answerStoreSettings⟩
  | storeComplete => exact ⟨_, rfl, h.outside k.storeDone⟩
  | loadDefaults _ _ => exact ⟨_, rfl, h.request fun _ hu => hu.answerLoadDefaults⟩
  | controlFrameAbandoned _ _ => exact ⟨_, rfl, h.outside k.characters.abandon⟩
  | idleSymbolReceived _ => exact ⟨_, rfl, h.outside k.idleSymbol⟩

/-- Settles O5: a value enters the record only by a conversion, which clamps it; every other command of chapter 1 moves
values of one channel among its held, pending and published ones, and no other command but a reset touches the
acquisition unit. -/
theorem channelRangesKept : Obligations.ChannelRangesKept := by
  intro s t h hs
  rw [← valuesInRange_iff] at h ⊢
  unfold step at hs
  split at hs
  · cases hs; exact h
  · rename_i c rest _
    obtain ⟨u, hu, hr⟩ := exec_valuesInRange c { s with pending := rest } ⟨h.channel, h.reading⟩
    rw [hu] at hs
    cases hs
    exact hr

end Sys2Proof.Proofs
end

section
/-! The statements on conversions, clock windows and time, and on the reset state. -/
namespace Sys2Proof.Proofs

open Sys2Proof Sys2Proof.Machine Sys2Proof.Laws

variable {s : State}

-- ===================================================================== a completed conversion (R2, R3, R4)

theorem conversionDone_idle {c : Fin 17} {frame : Word32} {milli : Int}
    (h : s.aqu.channels[c].converting = false ∨ frame ≠ s.aqu.nextFrame) : s.conversionDone c frame milli = s := by
  obtain h | h := h
  · simp [State.conversionDone, show s.aqu.channels[c.val].converting = false from h]
  · simp [State.conversionDone, h]

theorem conversionDone_taken {c : Fin 17} {frame : Word32} {milli : Int}
    (h : s.aqu.channels[c].converting = true) (hf : frame = s.aqu.nextFrame) :
    s.conversionDone c frame milli =
      s.setChannel c { s.aqu.channels[c] with converting := false, result := some (convert c milli) } := by
  simp [State.conversionDone, show s.aqu.channels[c.val].converting = true from h, hf]

/-- Settles O10: the completion acts exactly on a conversion of the frame in progress, and what it holds is the
truncated result, clamped. -/
theorem conversionHeldWithinRange : Obligations.ConversionHeldWithinRange := by
  intro c frame milli s hq
  have hx : exec (.conversionComplete c { frame := frame, milli := milli }) s =
      .next (s.conversionDone c frame milli) :=
    congrArg (fun u : State => Host.Outcome.next (u.conversionDone c frame milli)) (settle_of_quiet hq)
  refine ⟨fun h => by rw [hx, conversionDone_idle h], fun hc hf => ?_⟩
  refine ⟨(convert c milli).1, (convert c milli).2, by rw [hx, conversionDone_taken hc hf]; rfl,
    (convert_inRange c milli).1, (convert_inRange c milli).2, ?_⟩
  obtain ⟨hs, hv, _⟩ | ⟨hs, hv, hlt⟩ | ⟨hs, hv, hlt⟩ := convert_spec c milli
  · exact .inl ⟨hs, hv⟩
  · exact .inr (.inl ⟨hs, hv, hlt⟩)
  · exact .inr (.inr ⟨hs, hv, hlt⟩)

-- ===================================================================== time (R155)

@[simp] theorem runDown_none (n : Nat) : runDown n none = none := rfl
@[simp] theorem runDown_zero (t : Option Nat) : runDown 0 t = t := by cases t <;> rfl

@[simp] theorem vmap_id {α : Type} {n : Nat} (v : Vector α n) : vmap (fun a => a) v = v := by
  ext i hi
  simp

/-- The whole milliseconds that us more microseconds complete. -/
def wholeMs (us : Nat) (s : State) : Nat := (s.subUs + us) / 1000

/-- What time does to the records: each timer runs down by the milliseconds completed, where they are 0 as elsewhere. -/
theorem advance_spec (us : Nat) (s : State) :
    s.advance us = { s with
      subUs := (s.subUs + us) % 1000
      elapsed := s.elapsed + BitVec.ofNat 48 (wholeMs us s)
      stationTime := s.stationTime + BitVec.ofNat 48 (wholeMs us s)
      sync := vmap (SyncRec.run us) s.sync
      feeder := vmap (fun f => { f with timer := runDown (wholeMs us s) f.timer }) s.feeder
      link := vmap (fun l => { l with timeout := runDown (wholeMs us s) l.timeout }) s.link
      upPort := (s.advance us).upPort
      dnPort := (s.advance us).dnPort
      group := vmap (fun g => { g with delay := runDown (wholeMs us s) g.delay }) s.group
      sts := { s.sts with
        supTimer := runDown (wholeMs us s) s.sts.supTimer, hold := runDown (wholeMs us s) s.sts.hold } } := by
  by_cases h : (s.subUs + us) / 1000 = 0
  · simp [State.advance, wholeMs, h]
  · simp [State.advance, State.runTimers, wholeMs, h]

theorem advance_sync (us : Nat) (s : State) (g : Fin 2) :
    (s.advance us).sync[g] = { s.sync[g] with crossTimer := s.sync[g].crossTimer.map (· - us) } := by
  rw [advance_spec]
  simp [SyncRec.run, runDown]

theorem advance_feeder (us : Nat) (s : State) (k : Fin 6) :
    (s.advance us).feeder[k] = { s.feeder[k] with timer := runDown (wholeMs us s) s.feeder[k].timer } := by
  rw [advance_spec]
  simp

theorem advance_link (us : Nat) (s : State) (j : Fin 4) :
    (s.advance us).link[j] = { s.link[j] with timeout := runDown (wholeMs us s) s.link[j].timeout } := by
  rw [advance_spec]
  simp

theorem advance_group (us : Nat) (s : State) (g : Fin 2) :
    (s.advance us).group[g] = { s.group[g] with delay := runDown (wholeMs us s) s.group[g].delay } := by
  rw [advance_spec]
  simp

-- ===================================================================== clock windows (R12..R16)

/-- The counts a window end leaves, by the clock's state. -/
theorem judge_spec (a : Aqu) (n : Nat) :
    a.judge n = { a with
      badWindows :=
        if a.clock = .good then (if 2280 ≤ n ∧ n ≤ 2520 then 0 else min 10 (a.badWindows + 1)) else a.badWindows
      stopped := if a.clock = .good then n == 0 else a.stopped
      goodWindows :=
        if a.clock = .good then a.goodWindows
        else if 2280 ≤ n ∧ n ≤ 2520 then min 1000 (a.goodWindows + 1) else 0
      elapsedWindows :=
        if a.clock = .unproven then min 2000 (a.elapsedWindows + 1) else a.elapsedWindows } := by
  cases h : a.clock <;> simp [Aqu.judge, h, inTolerance]

/-- Settles O12: the judgement is judge_spec, and each timer's run a lemma on State.advance. -/
theorem windowEndAndTimeRunCounts : Obligations.WindowEndAndTimeRunCounts := by
  refine ⟨fun n straps s hq => ?_, fun us s _ => ?_⟩
  · have ha : (if s.aqu.clock = .good then s else s.advance 100).aqu = s.aqu :=
      (KeepsAqu.ite (.refl s) (KeepsAqu.refl s).advance).aqu
    have hb : (if s.aqu.clock = .good then s else s.advance 100).bfb = s.bfb := by
      rw [advance_spec]
      split <;> rfl
    refine ⟨s.window { periods := n, straps := straps }, ?_, ?_, fun k => ?_, rfl⟩
    · exact congrArg (fun u : State => Host.Outcome.next (u.window { periods := n, straps := straps }))
        (settle_of_quiet hq)
    · rw [← judge_spec, ← ha]
      rfl
    · simp [State.window, hb, Bfb.window]
  · have he : (s.advance us).elapsed - s.elapsed = BitVec.ofNat 48 (wholeMs us s) := by
      rw [advance_spec]
      exact add_sub_cancel_left _ _
    have ht : (s.advance us).stationTime - s.stationTime = BitVec.ofNat 48 (wholeMs us s) := by
      rw [advance_spec]
      exact add_sub_cancel_left _ _
    refine ⟨?_, ht.trans he.symm, fun k n hn => ?_, fun k hn => ?_, fun g n hn => ?_, fun j n hn => ?_,
      fun n hn => ?_, fun n hn => ?_, ?_, ?_, ?_, ?_, advance_sync us s⟩
    · rw [he, BitVec.toNat_ofNat, advance_spec]
      rfl
    · rw [advance_feeder, hn]; rfl
    · rw [advance_feeder, hn, runDown_none, ← hn]
    · rw [advance_group, hn]; rfl
    · rw [advance_link, hn]; rfl
    · rw [advance_spec, hn]; rfl
    · rw [advance_spec, hn]; rfl
    all_goals rw [advance_spec]

end Sys2Proof.Proofs
end

section
/-! What the owners of the channels do at a failure and at a restoration (R8, R10, R11), and what the part does when its
clock fails and when it is good again (R13..R16, R114, R143). -/
namespace Sys2Proof.Proofs

open Sys2Proof Sys2Proof.Machine Sys2Proof.Laws

variable {s t : State}

-- ===================================================================== the use of a channel (section 1.2)

theorem channelUse_ub (c : Fin 17) (h : c.val = 0) : channelUse c = .ub := by simp [channelUse, h]
theorem channelUse_ur (c : Fin 17) (h : c.val = 1) : channelUse c = .ur := by simp [channelUse, h]
theorem channelUse_ife (c : Fin 17) (h : c.val = 16) : channelUse c = .ife := by simp [channelUse, h]

theorem channelUse_ig (c : Fin 17) (g : Fin 2) (h : c.val = g.val + 2) : channelUse c = .ig g := by
  revert c g
  decide

theorem channelUse_feederCurrent (c : Fin 17) (k : Fin 6) (h : c.val = k.val + 4) :
    channelUse c = .feederCurrent k := by
  revert c k
  decide

theorem channelUse_lineVoltage (c : Fin 17) (k : Fin 6) (h : c.val = k.val + 10) :
    channelUse c = .lineVoltage k := by
  revert c k
  decide

-- ===================================================================== SAFE causes (R143, R144)

theorem setCause_hasCause (r : Sts) (c : SafeCause) (b : Bool) : (r.setCause c b).hasCause c = b := by
  cases c <;> simp [Sts.setCause, Sts.hasCause]

/-- The entry to SAFE (R144): the mode, then the feeders and sections, then the groups, the trigger and the event. -/
theorem enterSafe_spec (s : State) :
    ∃ u c e, FeederActs (s.setSts { s.sts with mode := .safe, run := false }) u ∧
      s.enterSafe = { u.groupsOnMode .safe with cap := c, events := e } := by
  refine ⟨(s.setSts { s.sts with mode := .safe, run := false }).tripAll.itOutAll, ?_⟩
  have hf : FeederActs (s.setSts { s.sts with mode := .safe, run := false })
      (s.setSts { s.sts with mode := .safe, run := false }).tripAll.itOutAll := (FeederActs.refl _).tripAll.itOutAll
  unfold State.enterSafe
  dsimp only
  generalize (s.setSts { s.sts with mode := .safe, run := false }).tripAll.itOutAll = u at hf ⊢
  obtain ⟨c, hc⟩ := trigger_spec srcStation (u.groupsOnMode .safe)
  rw [hc]
  exact ⟨_, _, hf, rfl⟩

/-- The entry to SAFE leaves the rest of the station record. -/
theorem enterSafe_sts (s : State) : s.enterSafe.sts = { s.sts with mode := .safe, run := false } := by
  obtain ⟨u, c, e, hf, h⟩ := enterSafe_spec s
  obtain ⟨r, e', hg⟩ := groupsOnMode_spec .safe u
  rw [h, hg]
  exact hf.sts

/-- A cause that becomes present, by the mode it finds. -/
theorem causePresent_new (c : SafeCause) (s : State) (h : s.sts.hasCause c = false) :
    ∃ e, EventsGrow s.events e ∧
      s.causePresent c =
        if s.sts.mode = .safe then { s with sts := s.sts.setCause c true, events := e }
        else ({ s with sts := s.sts.setCause c true, events := e } : State).enterSafe := by
  have hm : (s.sts.setCause c true).mode = s.sts.mode := by cases c <;> rfl
  refine ⟨_, (EventsGrow.refl _).push (s.event .sts 0 .safeCause (safeCauseValue c) (uword causePresentCode) .none), ?_⟩
  simp only [State.causePresent, h, State.logSts, State.log_sts, State.setSts_sts, hm]
  rfl

/-- The station record after a cause has become present. -/
theorem causePresent_sts (c : SafeCause) (s : State) (h : s.sts.hasCause c = false) :
    (s.causePresent c).sts =
      { s.sts.setCause c true with mode := .safe, run := if s.sts.mode = .safe then s.sts.run else false } := by
  obtain ⟨e, _, he⟩ := causePresent_new c s h
  rw [he]
  split
  next hm => cases c <;> simp [Sts.setCause, hm]
  next => rw [enterSafe_sts]

/-- A cause handed is present afterwards. -/
theorem causePresent_hasCause (c : SafeCause) (s : State) : (s.causePresent c).sts.hasCause c = true := by
  by_cases h : s.sts.hasCause c = true
  · rw [causePresent_again c s h, h]
  · rw [causePresent_sts c s (by simpa using h)]
    cases c <;> simp [Sts.setCause, Sts.hasCause]

theorem causeCleared_hasCause (c : SafeCause) (s : State) : (s.causeCleared c).sts.hasCause c = false := by
  by_cases h : s.sts.hasCause c = true
  · rw [causeCleared_spec c s h]
    exact setCause_hasCause _ _ _
  · simp [State.causeCleared, h]

-- ===================================================================== groups (R121, R124)

@[simp] theorem take_channel (r : GroupRec) (st : GState) : (r.take st).channel = r.channel := by cases st <;> rfl
@[simp] theorem take_state (r : GroupRec) (st : GState) : (r.take st).state = st := by cases st <;> rfl

theorem moveGroup_group (g : Fin 2) (st : GState) (w : GReason) (r : CapRef) (s : State) :
    (s.moveGroup g st w r).group = s.group.set g (s.group[g].take st) := rfl

/-- A cause takes a firing group to BLOCKED, with the cause recorded; any other group stays. -/
theorem blockGroup_group (g : Fin 2) (c : GCause) (s : State) :
    (s.blockGroup g c).group =
      if s.group[g].state.fires = true then s.group.set g ({ s.group[g] with blockCause := some c }.take .blocked)
      else s.group := by
  unfold State.blockGroup
  obtain ⟨p, hp⟩ := trigger_spec srcGroupBlock s
  split
  · dsimp only
    rw [moveGroup_group, hp]
    simp
  · rfl

/-- After a cause has been handed to group g it does not fire; another group fires as before. -/
theorem blockGroup_fires (g h : Fin 2) (c : GCause) (s : State) :
    (s.blockGroup g c).group[h].state.fires = (if g = h then false else s.group[h].state.fires) := by
  rw [blockGroup_group]
  by_cases hg : g = h
  · subst hg
    split
    next => simp [GState.fires]
    next hf => simpa using hf
  · have hv : g.val ≠ h.val := fun e => hg (Fin.ext e)
    split <;> simp [hv]

theorem blockGroup_channel (g h : Fin 2) (c : GCause) (s : State) :
    (s.blockGroup g c).group[h].channel = s.group[h].channel := by
  rw [blockGroup_group]
  split
  · simp only [Fin.getElem_fin, Vector.getElem_set]
    split
    next he => simp [he]
    next => rfl
  · rfl

/-- In SAFE a group that fired, or waited to restart, is OFF; its neighbour is left alone. -/
theorem groupOnMode_safe_fires (g h : Fin 2) (s : State) :
    (s.groupOnMode .safe g).group[h].state.fires = (if g = h then false else s.group[h].state.fires) := by
  unfold State.groupOnMode
  dsimp only
  by_cases hg : g = h
  · subst hg
    split
    next => simp [moveGroup_group, GState.fires]
    next hf => simpa using (not_or.1 hf).1
  · have hv : g.val ≠ h.val := fun e => hg (Fin.ext e)
    split <;> simp [moveGroup_group, hv]

/-- No group fires in SAFE (R127). -/
theorem groupsOnMode_safe_fires (g : Fin 2) (s : State) : (s.groupsOnMode .safe).group[g].state.fires = false := by
  simp only [State.groupsOnMode, groups2, List.foldl_cons, List.foldl_nil, groupOnMode_safe_fires]
  revert g
  simp [Fin.forall_fin_two]

theorem enterSafe_fires (g : Fin 2) (s : State) : s.enterSafe.group[g].state.fires = false := by
  obtain ⟨u, c, e, _, h⟩ := enterSafe_spec s
  rw [h]
  exact groupsOnMode_safe_fires g u

/-- A group's channel cause stands as it was. -/
structure KeepsChannel (g : Fin 2) (s t : State) : Prop where
  channel : t.group[g].channel = s.group[g].channel

section groups

variable {g h : Fin 2} (hk : KeepsChannel g s t)
include hk

theorem KeepsChannel.ite {u : State} {c : Prop} [Decidable c] (hk' : KeepsChannel g s u) :
    KeepsChannel g s (if c then t else u) := by split <;> assumption

theorem KeepsChannel.setSts {r : Sts} : KeepsChannel g s (t.setSts r) := ⟨hk.channel⟩
theorem KeepsChannel.logSts {e : EventKind} {v1 v2 : Word16} : KeepsChannel g s (t.logSts e v1 v2) := ⟨hk.channel⟩

theorem KeepsChannel.setGroupRec {r : GroupRec} (hr : r.channel = t.group[h].channel := by rfl) :
    KeepsChannel g s (t.setGroupRec h r) := by
  refine ⟨Eq.trans ?_ hk.channel⟩
  simp only [State.setGroupRec_group, Fin.getElem_fin, Vector.getElem_set]
  split
  next he => rw [hr]; simp [he]
  next => rfl

theorem KeepsChannel.moveGroup {st : GState} {w : GReason} {r : CapRef} : KeepsChannel g s (t.moveGroup h st w r) :=
  ⟨(hk.setGroupRec (h := h) (take_channel _ st)).channel⟩

theorem KeepsChannel.startTest : KeepsChannel g s (t.startTest h) := hk.moveGroup.ite hk

theorem KeepsChannel.groupOnMode {m : Mode} : KeepsChannel g s (t.groupOnMode m h) := by
  cases m with
  | start => exact hk
  | normal | reduced => exact hk.startTest
  | standby | safe => exact hk.moveGroup.ite hk

theorem KeepsChannel.changeMode {m : Mode} {w : ModeCause} : KeepsChannel g s (t.changeMode m w) :=
  hk.setSts.logSts.groupOnMode.groupOnMode

theorem KeepsChannel.groupsChanged : KeepsChannel g s t.groupsChanged := hk.ite (hk.setSts.changeMode.ite hk.setSts)
theorem KeepsChannel.lockGroup : KeepsChannel g s (t.lockGroup h) := hk.setGroupRec.moveGroup.groupsChanged

theorem KeepsChannel.restartTest : KeepsChannel g s (t.restartTest h) :=
  .ite (.ite hk.setGroupRec.setGroupRec.moveGroup hk.setGroupRec.lockGroup) hk

theorem KeepsChannel.groupCauseCleared : KeepsChannel g s (t.groupCauseCleared h) := hk.startTest.restartTest

end groups

/-- IGg FAILED is a present cause of group g, which does not fire (R124). -/
theorem groupChannelFailed_spec (g : Fin 2) (s : State) :
    (s.groupChannelFailed g).group[g].channel = true ∧ (s.groupChannelFailed g).group[g].state.fires = false := by
  unfold State.groupChannelFailed
  rw [blockGroup_channel, blockGroup_fires, State.setGroupRec_self]
  simp

theorem groupChannelRestored_channel (g : Fin 2) (s : State) :
    (s.groupChannelRestored g).group[g].channel = false := by
  have hk : KeepsChannel g (s.setGroupRec g { s.group[g] with channel := false }) (s.groupChannelRestored g) :=
    (⟨rfl⟩ : KeepsChannel _ _ _).groupCauseCleared
  rw [hk.channel, State.setGroupRec_self]

-- ===================================================================== feeders (R82)

/-- A failure of IFk takes feeder k to LOCKED_OUT, through an opening where its breaker may be closed. -/
theorem currentLost_state (k : Fin 6) (s : State) :
    ((s.currentLost k).feeder[k].state = .opening ∧ (s.currentLost k).feeder[k].dest = some .lockedOut) ∨
    (s.currentLost k).feeder[k].state = .lockedOut := by
  have hop : ∀ u : State, (u.lockOut k .channel).feeder[k].state = .lockedOut := fun u => by
    rw [lockOut_spec]
    simp
  unfold State.currentLost
  split
  case h_1 | h_2 =>
    obtain ⟨c, r, h⟩ := openBreaker_spec k .channel .none false .lockedOut .channel .none (s.currentValue k) s
    rw [h]
    simp
  case h_3 hs => simp_all
  case h_8 => exact .inr (hop _)
  case h_9 hs => right; split <;> simp_all
  all_goals exact .inr (hop _)

/-- The lost mark stands and the live run is 0 (R82). -/
structure LineLost (k : Fin 6) (s : State) : Prop where
  lost : s.feeder[k].lost = true
  liveRun : s.feeder[k].liveRun = 0

variable {k : Fin 6}

theorem lineLost_setFeeder {f : Feeder} (hl : f.lost = true) (hr : f.liveRun = 0) (s : State) :
    LineLost k (s.setFeeder k f) := ⟨by simp [hl], by simp [hr]⟩

theorem lineLost_moveFeeder {f : Feeder} (hl : f.lost = true) (hr : f.liveRun = 0) (st : FState) (n : Option Nat)
    (s : State) : LineLost k (s.moveFeeder k f st n) := lineLost_setFeeder (f := f.take st n) hl hr _

theorem LineLost.enterOpen (h : LineLost k s) : LineLost k (s.enterOpen k) :=
  lineLost_moveFeeder h.lost h.liveRun _ _ _

theorem LineLost.lockOut (h : LineLost k s) {c : LockCause} : LineLost k (s.lockOut k c) :=
  have hm := lineLost_moveFeeder (f := { s.feeder[k] with lockCause := c }) h.lost h.liveRun .lockedOut none s
  ⟨hm.lost, hm.liveRun⟩

theorem LineLost.adoptLocal (h : LineLost k s) : LineLost k (s.adoptLocal k) :=
  have hm := lineLost_moveFeeder (f := { s.feeder[k] with origin := .none, element := .none, sotf := false })
    h.lost h.liveRun .closed (some ((s.general k).tReclaim * 1000)) s
  ⟨hm.lost, hm.liveRun⟩

/-- An INVALID test leaves the mark and the run (R77, R78). -/
theorem LineLost.testInvalid (h : LineLost k s) {n : Nat} {v : Option TestValues} :
    LineLost k (s.testInvalid k n v) := by
  have hl : (s.testResult k .invalid n v).feeder[k].lost = true := by
    rw [testResult_spec]
    simpa using h.lost
  unfold State.testInvalid
  dsimp only
  split
  · split
    · exact LineLost.adoptLocal (lineLost_setFeeder (by exact hl) (by rfl) _)
    · exact LineLost.enterOpen (lineLost_setFeeder (by exact hl) (by rfl) _)
  · split
    · exact LineLost.adoptLocal (lineLost_setFeeder (by exact hl) (by rfl) _)
    · split
      · exact lineLost_moveFeeder (by exact hl) (by rfl) _ _ _
      · exact LineLost.lockOut (lineLost_setFeeder (by exact hl) (by rfl) _)

theorem lineLost_voltageLost (k : Fin 6) (s : State) : LineLost k (s.voltageLost k) := by
  have hs : LineLost k (s.setFeeder k { s.feeder[k] with lost := true, liveRun := 0 }) := lineLost_setFeeder rfl rfl _
  unfold State.voltageLost
  dsimp only
  split
  · exact hs.testInvalid
  · exact hs

-- ===================================================================== a channel that fails or is restored

/-- s with the record of channel c replaced and the change logged: what the owner of its function
is handed (R8, R10). -/
def channelLogged (c : Fin 17) (kind : EventKind) (r : Channel) (v : Int) (s : State) : State :=
  (s.setChannel c r).log .aqu c.val kind (uword c.val) (word v) .none

theorem channelFailTaken_eq (c : Fin 17) (s : State) (h : s.channelFailDue c = true) :
    s.channelFailTaken c =
      (channelLogged c .channelFail { s.aqu.channels[c] with health := .failed, staleRun := 0, goodRun := 0 }
        s.aqu.channels[c].held s).handFailure (channelUse c) := by
  unfold State.channelFailTaken
  rw [if_pos h]
  rfl

theorem channelRestoredTaken_eq (c : Fin 17) (s : State) (h : s.channelRestoredDue c = true) :
    s.channelRestoredTaken c =
      (channelLogged c .channelRestored { s.aqu.channels[c] with health := .good, staleRun := 0, goodRun := 0 }
        (s.reading c).value s).handRestoration (channelUse c) := by
  unfold State.channelRestoredTaken
  rw [if_pos h]
  rfl

/-- A failure of IFk, with START complete or not (R82). -/
theorem currentFailed_spec (k : Fin 6) (s : State) :
    (s.sts.complete = true →
      ((s.currentFailed k).feeder[k].state = .opening ∧ (s.currentFailed k).feeder[k].dest = some .lockedOut) ∨
      (s.currentFailed k).feeder[k].state = .lockedOut) ∧
    (s.sts.complete = false →
      (s.currentFailed k).feeder =
        s.feeder.set k { s.feeder[k] with kept := s.feeder[k].kept ++ [.currentFailed] }) := by
  refine ⟨fun h => ?_, fun h => ?_⟩
  · simp only [State.currentFailed, h, if_true]
    exact currentLost_state k s
  · simp [State.currentFailed, h, State.keep]

/-- A failure of ULk, with START complete or not (R82). -/
theorem voltageFailed_spec (k : Fin 6) (s : State) :
    (s.sts.complete = true → LineLost k (s.voltageFailed k)) ∧
    (s.sts.complete = false →
      (s.voltageFailed k).feeder =
        s.feeder.set k { s.feeder[k] with kept := s.feeder[k].kept ++ [.voltageFailed] }) := by
  refine ⟨fun h => ?_, fun h => ?_⟩
  · simp only [State.voltageFailed, h, if_true]
    exact lineLost_voltageLost k s
  · simp [State.voltageFailed, h, State.keep]

/-- Settles O11: the owner's part of each failure and restoration is a lemma above; the rest is Reacts, and
StationActs for a restoration. -/
theorem channelChangesHandedOn : Obligations.ChannelChangesHandedOn := by
  refine ⟨fun c s hrun hh => ?_, fun c s hrun hh => ?_⟩
  · have hdue : s.channelFailDue c = true := by simp_all [State.channelFailDue]
    generalize hu : channelLogged c .channelFail
      { s.aqu.channels[c] with health := .failed, staleRun := 0, goodRun := 0 } s.aqu.channels[c].held s = u
    have hr : Reacts u (u.handFailure (channelUse c)) := (Reacts.refl u).handFailure
    refine ⟨u.handFailure (channelUse c), ?_, ?_, ?_, fun h => ?_, fun h => ?_, fun g h => ?_, fun k h hc => ?_,
      fun k h hc => ?_, fun k h hc => ?_, fun k h hc => ?_, fun h => ?_, ?_⟩
    · rw [← hu, ← channelFailTaken_eq c s hdue]
      rfl
    · rw [hr.aqu, ← hu]
      rfl
    · rw [← hu] at hr ⊢
      exact hr.grow
    · rw [channelUse_ub c h]
      exact causePresent_hasCause .channelUb u
    · rw [channelUse_ur c h, ← hu]
      exact ⟨rfl, rfl, rfl, rfl⟩
    · rw [channelUse_ig c g h]
      exact groupChannelFailed_spec g u
    · rw [channelUse_feederCurrent c k h]
      exact (currentFailed_spec k u).1 (hu ▸ hc)
    · rw [channelUse_lineVoltage c k h]
      have hl := (voltageFailed_spec k u).1 (hu ▸ hc)
      exact ⟨hl.lost, hl.liveRun⟩
    · rw [channelUse_feederCurrent c k h, ← hu]
      exact (currentFailed_spec k _).2 hc
    · rw [channelUse_lineVoltage c k h, ← hu]
      exact (voltageFailed_spec k _).2 hc
    · rw [channelUse_ife c h]
      exact causePresent_hasCause .channelIfe u
    · rw [← hu] at hr ⊢
      exact ⟨hr.pending, hr.straps, hr.lines, hr.elapsed, hr.stationTime, hr.subUs, hr.unset, hr.sync, hr.uset,
        hr.bfb, hr.term, hr.link, hr.upPort, hr.dnPort, hr.avg, hr.energy, hr.cmp, hr.sst⟩
  · have hdue : s.channelRestoredDue c = true := by simp_all [State.channelRestoredDue]
    generalize hu : channelLogged c .channelRestored
      { s.aqu.channels[c] with health := .good, staleRun := 0, goodRun := 0 } (s.reading c).value s = u
    have ha : StationActs u (u.handRestoration (channelUse c)) := (StationActs.refl u).handRestoration
    have hr := ha.reacts
    refine ⟨u.handRestoration (channelUse c), ?_, ?_, ?_, fun h => ?_, fun h => ?_, fun g h => ?_, fun h => ?_, ?_⟩
    · rw [← hu, ← channelRestoredTaken_eq c s hdue]
      rfl
    · rw [hr.aqu, ← hu]
      rfl
    · rw [← hu] at hr ⊢
      exact hr.grow
    · rw [channelUse_ub c h]
      exact causeCleared_hasCause .channelUb u
    · rw [channelUse_ur c h]
      rfl
    · rw [channelUse_ig c g h]
      exact groupChannelRestored_channel g u
    · rw [channelUse_ife c h]
      exact causeCleared_hasCause .channelIfe u
    · rw [← hu] at ha hr ⊢
      exact ⟨ha.feeder, ha.sec, ha.disc, hr.sync, hr.uset, hr.bfb, hr.term, hr.link, hr.upPort, hr.dnPort, hr.avg,
        hr.energy, hr.cmp, hr.sst, hr.pending⟩

end Sys2Proof.Proofs
end

section
/-! What the part does when its clock fails and when it is good again (R13..R16, R114, R138, R143). -/
namespace Sys2Proof.Proofs

open Sys2Proof Sys2Proof.Machine Sys2Proof.Laws

variable {s t : State}

-- ===================================================================== the clock fails (R13, R14, R114, R143)

/-- A reaction is the same beside another sync record. -/
theorem Reacts.setSyncRec (h : Reacts s t) (g : Fin 2) (r : SyncRec) :
    Reacts (s.setSyncRec g r) (t.setSyncRec g r) := by
  obtain ⟨⟨_, _, _, _, _, _, _, rfl⟩, hc, hg⟩ := h
  exact ⟨⟨_, _, _, _, _, _, _, rfl⟩, hc, hg⟩

/-- s with both sync records as a reset leaves them (R114). -/
def syncsLost (s : State) : State := (s.setSyncRec 0 .reset).setSyncRec 1 .reset

theorem syncsLost_sync (s : State) (g : Fin 2) : (syncsLost s).sync[g] = .reset := by
  revert g
  simp [Fin.forall_fin_two, syncsLost]

/-- The loss of both syncs: the records, then what the groups do. -/
theorem syncClockFails_reacts (s : State) : Reacts (syncsLost s) ((s.syncClockFail 0).syncClockFail 1) := by
  have h0 : Reacts (s.setSyncRec 0 .reset) (s.syncClockFail 0) := (StationActs.refl _).blockGroup.reacts
  exact (h0.setSyncRec 1 .reset).station (StationActs.refl _).blockGroup

theorem syncClockFails_sts (s : State) : ((s.syncClockFail 0).syncClockFail 1).sts = s.sts := by
  have h (g : Fin 2) (u : State) : (u.syncClockFail g).sts = u.sts := by
    obtain ⟨_, _, _, hb⟩ := blockGroup_spec g .syncLost (u.setSyncRec g .reset)
    rw [State.syncClockFail, hb]
    rfl
  rw [h, h]

/-- A group whose sync is lost does not fire. -/
theorem syncClockFails_fires (s : State) (g : Fin 2) :
    ((s.syncClockFail 0).syncClockFail 1).group[g].state.fires = false := by
  simp only [State.syncClockFail, blockGroup_fires, State.setSyncRec_group]
  revert g
  simp [Fin.forall_fin_two]

theorem causePresent_fires (c : SafeCause) (s : State) (g : Fin 2) (h : s.sts.hasCause c = false)
    (hg : s.group[g].state.fires = false) : (s.causePresent c).group[g].state.fires = false := by
  obtain ⟨e, _, he⟩ := causePresent_new c s h
  rw [he]
  split
  · exact hg
  · exact enterSafe_fires g _

/-- The clock's entry to FAIL, in the order of log 21. -/
theorem clockFailTaken_eq (s : State) (h : s.clockFailDue = true) :
    s.clockFailTaken =
      ((({ s with aqu := s.aqu.enterFail } : State).syncClockFail 0).syncClockFail 1).causePresent .clockFail := by
  unfold State.clockFailTaken
  rw [if_pos h]
  rfl

/-- The acquisition unit in FAIL (R14). -/
theorem enterFail_channel (a : Aqu) (c : Fin 17) :
    a.enterFail.channels[c] = a.channels[c].stopClock ∧
    a.enterFail.latest.readings[c] = a.latest.readings[c].markStale := by
  simp [Aqu.enterFail]

/-- In FAIL the backup logic drives the lines from the breaker feedback alone (R145). -/
theorem lines_in_fail (s : State) (h : s.aqu.clock = .fail) :
    (∀ k : Fin 6, s.tripLine k = s.bfb[k].reported ∧ s.closeLine k = false ∧ s.ltcLine k = false) ∧
    ∀ g : Fin 2, s.firingOutput g = none := by
  simp [State.tripLine, State.closeLine, State.ltcLine, State.firingOutput, State.inClockFail, State.bfbClosed, h]

-- ===================================================================== the clock is good (R15, R16, R137, R138)

/-- The clearing of CLOCK_FAIL, whether it was present or not. -/
theorem causeCleared_clockFail (s : State) :
    s.causeCleared .clockFail = { s with
      sts := { s.sts with clockFail := false }
      events := if s.sts.clockFail = true then
        pushEvent s.events (s.event .sts 0 .safeCause (safeCauseValue .clockFail) 1 .none) else s.events } := by
  by_cases h : s.sts.clockFail = true
  · rw [causeCleared_spec .clockFail s h, if_pos h]
    rfl
  · have hf : s.sts.clockFail = false := by simpa using h
    have hs : { s.sts with clockFail := false } = s.sts := by rw [← hf]
    rw [if_neg h, hs]
    simp [State.causeCleared, Sts.hasCause, hf]

/-- A port as an invalid address leaves it (R94, R138). -/
def disabledPort (r : PortRec) : PortRec := { r with disabled := true, state := .syncing, undecodable := 0 }

/-- The reading of the straps, once after each reset (R138). -/
theorem readStraps_spec (s : State) :
    s.readStraps =
      let off := s.sts.address = none ∧ (s.straps.toNat = 0 ∨ 250 < s.straps.toNat)
      { s with
        sts := { s.sts with address := some (s.sts.address.getD s.straps) }
        upPort := if off then disabledPort s.upPort else s.upPort
        dnPort := if off then disabledPort s.dnPort else s.dnPort } := by
  cases ha : s.sts.address with
  | some a =>
    have hs : { s.sts with address := some a } = s.sts := by rw [← ha]
    simp [State.readStraps, ha, hs]
  | none =>
    by_cases hi : s.straps.toNat = 0 ∨ 250 < s.straps.toNat
    · simp [State.readStraps, ha, hi, addressInvalid, State.disablePorts, ports2, State.setPort, State.port,
        State.setSts, disabledPort]
    · simp [State.readStraps, ha, hi, addressInvalid, State.setSts]

/-- Settles O13: CLOCK_FAIL is the loss of both syncs and the entry to SAFE, beside the acquisition unit's own change;
CLOCK_GOOD is spelt out whole. -/
theorem clockStateChanges : Obligations.ClockStateChanges := by
  refine ⟨fun s hdue hcf => ?_, fun s hclock hwin => ?_⟩
  · generalize hu : ({ s with aqu := s.aqu.enterFail } : State) = u
    generalize hv : (u.syncClockFail 0).syncClockFail 1 = v
    have hsts : v.sts = s.sts := by rw [← hv, syncClockFails_sts, ← hu]
    have hno : v.sts.hasCause .clockFail = false := by rw [hsts]; exact hcf
    have hfire : ∀ g : Fin 2, v.group[g].state.fires = false := hv ▸ syncClockFails_fires u
    have hr : Reacts (syncsLost u) (v.causePresent .clockFail) :=
      Reacts.causePresent (hv ▸ syncClockFails_reacts u)
    have hts := causePresent_sts .clockFail v hno
    rw [hsts] at hts
    have haqu : (v.causePresent .clockFail).aqu = s.aqu.enterFail := by rw [hr.aqu, ← hu]; rfl
    have hlines := lines_in_fail (v.causePresent .clockFail) (by rw [haqu]; rfl)
    have hbfb : (v.causePresent .clockFail).bfb = s.bfb := by rw [hr.bfb, ← hu]; rfl
    rw [hbfb] at hlines
    refine ⟨v.causePresent .clockFail, ?_, by rw [haqu]; rfl, by rw [haqu]; rfl, by rw [haqu]; rfl, fun c => ?_,
      fun g => ⟨?_, causePresent_fires _ v g hno (hfire g), hlines.2 g⟩, by rw [hts]; rfl, by rw [hts],
      by rw [hts]; rfl, fun hm => by rw [hts]; exact if_neg hm, hlines.1, ?_, hbfb, ?_⟩
    · rw [← hv, ← hu, ← clockFailTaken_eq s hdue]
      rfl
    · obtain ⟨hconv, hres, hheld, hfailed, hother⟩ := stopClock_spec s.aqu.channels[c]
      obtain ⟨hval, hhealth⟩ := markStale_spec s.aqu.latest.readings[c]
      simp only [State.reading, haqu, enterFail_channel]
      exact ⟨hconv, hres, hheld, hfailed, hother, hval, hhealth⟩
    · rw [hr.sync, syncsLost_sync]
      rfl
    · have hg := hr.grow
      rw [← hu] at hg
      exact hg
    · rw [← hu] at hr
      exact ⟨hr.elapsed, hr.stationTime, hr.uset, hr.sst, hr.cmp, hr.term, hr.link, hr.upPort, hr.dnPort, hr.energy,
        hr.avg, hr.pending⟩
  · have hdue : s.clockGoodDue = true := by simp [State.clockGoodDue, hclock, hwin]
    refine ⟨s.clockGoodTaken, rfl, ?_⟩
    rw [State.clockGoodTaken, if_pos hdue, causeCleared_clockFail, readStraps_spec]
    refine ⟨rfl, fun c => ?_, rfl, rfl, fun p => ?_, rfl⟩
    · simp [Aqu.enterGood]
    · cases p <;> rfl

end Sys2Proof.Proofs
end

section
/-! The frame trigger (R1, R4, R5, R7..R10, R159): the terminals sampled, the channels treated, the record published and
taken by every consumer. -/
namespace Sys2Proof.Proofs

open Sys2Proof Sys2Proof.Machine Sys2Proof.Laws

variable {s t : State}

-- ===================================================================== sampling (R159)

/-- A terminal after a frame trigger that finds its line at level raw: an input is sampled, and a change of its
processed level is marked once START is complete. -/
def atTrigger (complete raw : Bool) (r : Terminal) : Terminal :=
  if r.cfg.mode.isInput = true then
    { r.sample raw with change := r.change || (complete && (r.sample raw).proc != r.proc) }
  else r

/-- A sample leaves the configuration and the change mark. -/
theorem sample_spec (r : Terminal) (raw : Bool) : (r.sample raw).cfg = r.cfg ∧ (r.sample raw).change = r.change := by
  unfold Terminal.sample
  dsimp only
  split
  · exact ⟨rfl, rfl⟩
  · split
    · exact ⟨rfl, rfl⟩
    · split <;> exact ⟨rfl, rfl⟩

theorem atTrigger_spec (complete raw : Bool) (r : Terminal) :
    atTrigger complete raw r =
      if r.cfg.mode = .inPlain ∨ r.cfg.mode = .inFiltered ∨ r.cfg.mode = .inFilteredInverted then
        { r.sample raw with change := (r.sample raw).change || (complete && (r.sample raw).proc != r.proc) }
      else r := by
  rw [(sample_spec r raw).2, atTrigger]
  cases r.cfg.mode <;> simp [TermMode.isInput]

theorem setTerm_setTerm (i : Fin 16) (r r' : Terminal) (s : State) :
    (s.setTerm i r).setTerm i r' = s.setTerm i r' := by simp [State.setTerm]

/-- The sample of one terminal: its record, then what the owner of its function does. -/
theorem sampleTerminal_reacts (i : Fin 16) (s : State) :
    Reacts (s.setTerm i (atTrigger s.sts.complete (s.lines.getLsbD i.val) s.term[i])) (s.sampleTerminal i) := by
  unfold State.sampleTerminal atTrigger
  dsimp only
  split
  case isTrue =>
    have hch := (sample_spec s.term[i] (s.lines.getLsbD i.val)).2
    generalize hn : s.term[i].sample (s.lines.getLsbD i.val) = n at hch ⊢
    split
    case isTrue hsame =>
      have hm : (s.term[i].change || (s.sts.complete && n.proc != s.term[i].proc)) = n.change := by
        rw [hch]
        obtain hp | hc := hsame
        · simp [hp]
        · simp [show s.sts.complete = false by simpa using hc]
      rw [hm]
      exact .refl _
    case isFalse hdiff =>
      have hm : (s.term[i].change || (s.sts.complete && n.proc != s.term[i].proc)) = true := by simp_all
      rw [hm]
      have hr : Reacts (s.setTerm i { n with change := true })
          (((s.setTerm i n).setTerm i { n with change := true }).handChange n.cfg.fn n.proc) := by
        rw [setTerm_setTerm]
        exact (Reacts.refl _).handChange
      unfold State.terminalChanged
      rw [State.setTerm_self]
      exact .ite (hr.station (StationActs.refl _).log) hr
  case isFalse =>
    have hs : s.setTerm i s.term[i] = s := by simp [State.setTerm]
    rw [hs]
    exact .refl _

/-- A reaction is the same beside other terminals. -/
theorem Reacts.withTerm (h : Reacts s t) (v : Vector Terminal 16) :
    Reacts { s with term := v } { t with term := v } := by
  obtain ⟨⟨_, _, _, _, _, _, _, rfl⟩, hc, hg⟩ := h
  exact ⟨⟨_, _, _, _, _, _, _, rfl⟩, hc, hg⟩

/-- Terminals sampled one after another: each as if it were the only one. -/
theorem foldl_sampleTerminal (l : List (Fin 16)) (hl : l.Nodup) (s : State) :
    Reacts { s with term := (l.foldl (fun s i => s.sampleTerminal i) s).term }
      (l.foldl (fun s i => s.sampleTerminal i) s) ∧
    ∀ j : Fin 16, (l.foldl (fun s i => s.sampleTerminal i) s).term[j] =
      if j ∈ l then atTrigger s.sts.complete (s.lines.getLsbD j.val) s.term[j] else s.term[j] := by
  induction l generalizing s with
  | nil => exact ⟨.refl _, fun j => by simp⟩
  | cons i l ih =>
    obtain ⟨hi, hl⟩ := List.nodup_cons.1 hl
    have h1 := sampleTerminal_reacts i s
    obtain ⟨h2, hterm⟩ := ih hl (s.sampleTerminal i)
    refine ⟨(h1.withTerm _).trans h2, fun j => ?_⟩
    rw [List.foldl_cons, hterm j, h1.complete, h1.lines, h1.term]
    by_cases hj : i = j
    · subst hj
      rw [if_neg hi, if_pos (List.mem_cons_self), State.setTerm_self]
    · rw [State.setTerm_other _ _ _ _ hj]
      simp [Ne.symm hj]

theorem sampleTerminals_reacts (s : State) : Reacts { s with term := s.sampleTerminals.term } s.sampleTerminals :=
  (foldl_sampleTerminal terminals16 (by decide) s).1

theorem sampleTerminals_term (s : State) (j : Fin 16) :
    s.sampleTerminals.term[j] = atTrigger s.sts.complete (s.lines.getLsbD j.val) s.term[j] := by
  have hj : j ∈ terminals16 := by revert j; decide
  exact ((foldl_sampleTerminal terminals16 (by decide) s).2 j).trans (if_pos hj)

-- ===================================================================== the channels treated (R4, R7..R10)

theorem treat_completed (r : Channel) (v : Int) (sat : Bool) (h : r.result = some (v, sat)) (hf : r.health ≠ .failed) :
    r.treat =
      ({ r with held := v, heldSat := sat, converting := true, result := none, health := .good, staleRun := 0 },
        { value := v, health := .good, sat := sat }) := by
  simp [Channel.treat, h, hf, Channel.reading]

theorem treat_completed_failed (r : Channel) (v : Int) (sat : Bool) (h : r.result = some (v, sat))
    (hf : r.health = .failed) :
    r.treat =
      ({ r with held := v, heldSat := sat, converting := true, result := none, goodRun := min 64 (r.goodRun + 1) },
        { value := v, health := if 63 ≤ r.goodRun then .good else .failed, sat := sat }) := by
  have hn : min 64 (r.goodRun + 1) = 64 ↔ 63 ≤ r.goodRun := by omega
  simp [Channel.treat, h, hf, Channel.reading, hn]

theorem treat_missed (r : Channel) (h : r.result = none) (hf : r.health ≠ .failed) :
    r.treat =
      ({ r with converting := true, health := .stale, staleRun := min 4 (r.staleRun + 1) },
        { value := r.held, health := .stale, sat := r.heldSat }) := by
  simp [Channel.treat, h, hf, Channel.reading]

theorem treat_missed_failed (r : Channel) (h : r.result = none) (hf : r.health = .failed) :
    r.treat =
      ({ r with converting := true, goodRun := 0 }, { value := r.held, health := .failed, sat := r.heldSat }) := by
  simp [Channel.treat, h, hf, Channel.reading]

theorem publish_channel (a : Aqu) (c : Fin 17) :
    a.publish.channels[c] = a.channels[c].treat.1 ∧ a.publish.latest.readings[c] = a.channels[c].treat.2 := by
  simp [Aqu.publish]

-- ===================================================================== the record taken (log 7)

theorem consume_reacts (s : State) : Reacts s.storeTakesFrame s.consume :=
  ((Reacts.refl _).feeders (FeederActs.refl _).feedersTakeFrame).station
    (StationActs.refl _).groupsTakeFrame.stationTakesFrame

theorem frame_idle (lines : BitVec 16) (s : State) (h : s.aqu.clock ≠ .good) : s.frame lines = s := by
  simp [State.frame, h]

theorem frame_good (lines : BitVec 16) (s : State) (h : s.aqu.clock = .good) :
    s.frame lines =
      ({ ({ s.advance 250 with lines := lines } : State).sampleTerminals with
        aqu := ({ s.advance 250 with lines := lines } : State).sampleTerminals.aqu.publish } : State).consume := by
  unfold State.frame
  rw [if_pos h]

/-- Settles O9: the terminals, the channels and the record each by its lemma; what the owners and the consumers leave is
Reacts, and what time leaves is advance_spec. -/
theorem frameTriggerPublishesRecord : Obligations.FrameTriggerPublishesRecord := by
  intro lines s hq
  have hx : exec (.frameTrigger lines) s = .next (s.frame lines) :=
    congrArg (fun u : State => Host.Outcome.next (u.frame lines)) (settle_of_quiet hq)
  refine ⟨fun h => by rw [hx, frame_idle lines s h], fun h => ?_⟩
  rw [hx]
  have hft := frame_good lines s h
  generalize s.frame lines = t at hft ⊢
  generalize hu : ({ s.advance 250 with lines := lines } : State) = u at hft ⊢
  have hadv : u = { s.advance 250 with lines := lines } := hu.symm
  rw [advance_spec] at hadv
  have hsam := sampleTerminals_reacts u
  have hterm := sampleTerminals_term u
  generalize u.sampleTerminals = v at hft hsam hterm
  have haqu : v.aqu = s.aqu := hsam.aqu.trans (by rw [hadv])
  rw [haqu] at hft
  have hr : Reacts ({ v with aqu := s.aqu.publish } : State).storeTakesFrame t := hft ▸ consume_reacts _
  have hpub : t.aqu = s.aqu.publish := hr.aqu
  have hch (c : Fin 17) : t.aqu.channels[c] = s.aqu.channels[c].treat.1 ∧ t.reading c = s.aqu.channels[c].treat.2 := by
    rw [State.reading, hpub]
    exact publish_channel _ _
  refine ⟨t, rfl, by rw [hpub]; rfl, by rw [hpub]; rfl, fun c v sat hres hf => ?_, fun c v sat hres hf => ?_,
    fun c hres hf => ?_, fun c hres hf => ?_, ?_, ?_, ?_, ?_, fun j => ?_, ?_, ?_, ?_, ?_, ?_,
    fun g => ?_, ?_, ?_, ?_, ?_⟩
  · rw [(hch c).1, (hch c).2, treat_completed _ v sat hres hf]
    exact ⟨rfl, rfl⟩
  · rw [(hch c).1, (hch c).2, treat_completed_failed _ v sat hres hf]
    exact ⟨rfl, rfl⟩
  · rw [(hch c).1, (hch c).2, treat_missed _ hres hf]
    exact ⟨rfl, rfl⟩
  · rw [(hch c).1, (hch c).2, treat_missed_failed _ hres hf]
    exact ⟨rfl, rfl⟩
  · exact (hr.lines.trans hsam.lines).trans (by rw [hadv])
  · exact (hr.subUs.trans hsam.subUs).trans (by rw [hadv])
  · exact (hr.elapsed.trans hsam.elapsed).trans (by rw [hadv]; rfl)
  · exact (hr.stationTime.trans hsam.stationTime).trans (by rw [hadv]; rfl)
  · rw [hr.term]
    refine (hterm j).trans ?_
    rw [hadv]
    exact atTrigger_spec _ _ _
  · rw [hpub]
    exact hft
  · have hg := hsam.grow.trans hr.grow
    rw [hadv] at hg
    exact hg
  · exact (hr.pending.trans hsam.pending).trans (by rw [hadv])
  · exact (hr.straps.trans hsam.straps).trans (by rw [hadv])
  · exact (hr.unset.trans hsam.unset).trans (by rw [hadv])
  · have hy : t.sync = (s.advance 250).sync := (hr.sync.trans hsam.sync).trans (by rw [← hu])
    rw [hy]
    exact advance_sync 250 s g
  · exact (hr.uset.trans hsam.uset).trans (by rw [hadv])
  · exact (hr.bfb.trans hsam.bfb).trans (by rw [hadv])
  · exact (hr.cmp.trans hsam.cmp).trans (by rw [hadv])
  · exact (hr.sst.trans hsam.sst).trans (by rw [hadv])

end Sys2Proof.Proofs
end

section
/-! The reset state: the values the spec gives, block by block, and the invariants. -/
namespace Sys2Proof.Proofs

open Sys2Proof Sys2Proof.Machine Sys2Proof.Laws

-- ===================================================================== the records a block repeats

theorem reset_channel (c : Fin 17) : State.reset.aqu.channels[c] =
    { health := .stale, staleRun := 0, goodRun := 0, held := 0, heldSat := false, converting := false,
      result := none } := Vector.getElem_replicate c.isLt

theorem reset_reading (c : Fin 17) : State.reset.reading c = { value := 0, health := .stale, sat := false } :=
  Vector.getElem_replicate c.isLt

theorem reset_disc (k : Fin 6) : State.reset.disc[k] = .reset := Vector.getElem_replicate k.isLt
theorem reset_feeder (k : Fin 6) : State.reset.feeder[k] = .reset := Vector.getElem_replicate k.isLt
theorem reset_sec (k : Fin 6) : State.reset.sec[k] = .reset := Vector.getElem_replicate k.isLt
theorem reset_link (j : Fin 4) : State.reset.link[j] = .reset := Vector.getElem_replicate j.isLt
theorem reset_port (p : Port) : State.reset.port p = .reset := by cases p <;> rfl
theorem reset_group (g : Fin 2) : State.reset.group[g] = .reset := Vector.getElem_replicate g.isLt
theorem reset_sync (g : Fin 2) : State.reset.sync[g] = .reset := Vector.getElem_replicate g.isLt
theorem reset_term (i : Fin 16) : State.reset.term[i] = .reset := Vector.getElem_replicate i.isLt
theorem reset_mean (c : Fin 17) : State.reset.avg.means[c] = none := Vector.getElem_replicate c.isLt

/-- No output line of a feeder is asserted: the feeder is OPEN, and the clock not in FAIL (R59, R89). -/
theorem reset_lines (k : Fin 6) :
    State.reset.closeLine k = false ∧ State.reset.tripLine k = false ∧ State.reset.ltcLine k = false := by
  have hc : State.reset.inClockFail = false := rfl
  simp only [State.closeLine, State.tripLine, State.tripRecord, State.ltcLine, reset_feeder, hc]
  exact ⟨rfl, rfl, rfl⟩

/-- Settles O2: each block's reset record, read. -/
theorem resetLeavesResetValues : Obligations.ResetLeavesResetValues := by
  refine ⟨rfl, rfl, rfl, fun c => ?channel, fun k => ?feeder, fun j => ?link, fun p => ?port, fun g => ?group,
    rfl, rfl, rfl, rfl, rfl, rfl, rfl, rfl, rfl, rfl, rfl, fun i => ?term, rfl, rfl, rfl, reset_mean, rfl, rfl, rfl,
    rfl, rfl, rfl, rfl, rfl, rfl, rfl, rfl, rfl⟩
  case channel =>
    rw [reset_channel]
    exact ⟨rfl, rfl, rfl, reset_reading c⟩
  case feeder =>
    obtain ⟨hclose, htrip, hltc⟩ := reset_lines k
    rw [reset_disc, reset_feeder, reset_sec]
    exact ⟨rfl, rfl, rfl, rfl, rfl, rfl, hclose, htrip, hltc, rfl, rfl, rfl, rfl, rfl⟩
  case link =>
    rw [reset_link]
    exact ⟨rfl, rfl, rfl, rfl, rfl⟩
  case port =>
    rw [reset_port]
    exact ⟨rfl, rfl, rfl, rfl⟩
  case group =>
    rw [reset_group, reset_sync]
    exact ⟨rfl, rfl, rfl, rfl, rfl, rfl⟩
  case term =>
    rw [State.driven, reset_term]
    exact ⟨rfl, rfl, rfl, rfl⟩

-- ===================================================================== the invariants

theorem queuesFit_reset : QueuesFit State.reset := fun p => by
  rw [reset_port]
  exact Nat.zero_le 4

theorem startHolds_reset : StartHolds State.reset := fun _ =>
  ⟨rfl, .inl rfl, fun k => by rw [reset_feeder]; exact ⟨rfl, fun h => by cases h⟩,
    fun g => by rw [reset_group]; exact ⟨rfl, by simp [GroupRec.reset]⟩, fun i => by rw [reset_term]; rfl⟩

theorem rolesFollow_reset : RolesFollow State.reset := fun k => by
  rw [reset_sec, reset_feeder]
  rfl

/-- Both groups are available, no cause is present, and START feeds nothing (R157). -/
theorem stationConsistent_reset : StationConsistent State.reset := by
  refine ⟨rfl, fun h => ?_, fun _ => rfl, fun h => ?_⟩
  · cases h
  · cases h

theorem oneLiveBuffer_reset : OneLiveBuffer State.reset := by
  rintro ⟨h, _⟩
  cases h

/-- Settles O8. -/
theorem invariantsHoldAtReset : Obligations.InvariantsHoldAtReset :=
  ⟨Nat.zero_le 256, (valuesInRange_iff _).1 valuesInRange_reset, oneLiveBuffer_reset, queuesFit_reset,
    startHolds_reset, rolesFollow_reset, stationConsistent_reset⟩

end Sys2Proof.Proofs
end

section
/-! The discriminator of a feeder (R21..R35): what every counted frame does to the filter, the elements on an active one,
and the own-protection trip handed to the feeder sequence. -/
namespace Sys2Proof.Proofs

open Sys2Proof Sys2Proof.Machine Sys2Proof.Laws

-- ===================================================================== the filter (R21, R23, R24)

/-- Two records of a discriminator agree in what the filter writes on a counted frame. -/
structure SameFilter (d e : Disc) : Prop where
  filtered : e.filtered = d.filtered
  history : e.history = d.history
  slope : e.slope = d.slope
  frame : e.frame = d.frame
  groupInUse : e.groupInUse = d.groupInUse

theorem SameFilter.trans {d e f : Disc} (h : SameFilter d e) (h' : SameFilter e f) : SameFilter d f :=
  ⟨h'.filtered.trans h.filtered, h'.history.trans h.history, h'.slope.trans h.slope, h'.frame.trans h.frame,
    h'.groupInUse.trans h.groupInUse⟩

theorem sameFilter_refl (d : Disc) : SameFilter d d := ⟨rfl, rfl, rfl, rfl, rfl⟩

/-- The tracking of a rise leaves the filter and the counts. -/
theorem track_spec (d before : Disc) (c : GroupCfg) :
    ∃ a b e r, d.track before c = { d with rising := a, base := b, elapsed := e, rise := r } := by
  unfold Disc.track
  dsimp only
  split
  · split <;> exact ⟨_, _, _, _, rfl⟩
  · split <;> exact ⟨_, _, _, _, rfl⟩

/-- A rise that is tracked has a value (R25, R26). -/
theorem track_rise (d before : Disc) (c : GroupCfg) (h : (d.track before c).rising = true) :
    ∃ i, (d.track before c).rise = some i := by
  unfold Disc.track at h ⊢
  dsimp only at h ⊢
  split at h
  next hr =>
    rw [if_pos hr]
    split at h
    next hs => exact ⟨_, by rw [if_pos hs]⟩
    next => rw [h] at hr; cases hr
  next hr =>
    rw [if_neg hr]
    split at h
    next => cases h
    next hs => exact ⟨_, by rw [if_neg hs]⟩

/-- A counted frame filters, whatever the state of the feeder and whether IFk is FAILED. -/
theorem frameStep_sameFilter (d : Disc) (st : FState) (g : SetGroup) (c : GroupCfg) (r : Reading) (n : Word32) :
    SameFilter (d.take g r.value n) (d.frameStep st g c r n).1 := by
  unfold Disc.frameStep
  dsimp only
  split
  · exact ⟨rfl, rfl, rfl, rfl, rfl⟩
  · split
    · exact ⟨rfl, rfl, rfl, rfl, rfl⟩
    · obtain ⟨_, _, _, _, ht⟩ := track_spec (d.take g r.value n) d c
      rw [ht]
      exact ⟨rfl, rfl, rfl, rfl, rfl⟩

/-- The slope is the change against the value four counted frames back, 0 until the history is full (R24). -/
theorem slopeOf_spec (d : Disc) (f : Int) :
    (∀ o, d.history[3]? = some o → d.slopeOf f = f - o) ∧ (d.history[3]? = none → d.slopeOf f = 0) := by
  refine ⟨fun o h => ?_, fun h => ?_⟩ <;> simp [Disc.slopeOf, Disc.oldest, h]

-- ===================================================================== records by index

/-- A record of a block after one of the block's records is replaced: that one, and any other. -/
theorem set_same {α : Type} {n : Nat} (v : Vector α n) (k : Fin n) (x : α) : (v.set k x)[k] = x :=
  Vector.getElem_set_self _

theorem set_other {α : Type} {n : Nat} (v : Vector α n) (x : α) {j k : Fin n} (h : j ≠ k) : (v.set k x)[j] = v[j] :=
  Vector.getElem_set_ne _ _ fun e => h (Fin.ext e.symm)

-- ===================================================================== own trips (R31, R50, R63, R68, R186)

theorem active_iff (st : FState) : st.active = true ↔ st = .closed ∨ st = .closing := by
  cases st <;> simp [FState.active]

/-- What the capture store makes of a trigger does not look at feeders, discriminators, sections and events. -/
theorem trigger_of_feederActs (n : Nat) (s : State) (f : Vector Feeder 6) (d : Vector Disc 6) (c : Vector Section 6)
    (e : List Event) :
    ({ s with feeder := f, disc := d, sec := c, events := e } : State).trigger n =
      ({ s with feeder := f, disc := d, sec := c, events := e, cap := (s.trigger n).1.cap }, (s.trigger n).2) := by
  unfold State.trigger
  dsimp only
  split
  · rfl
  · split <;> rfl

/-- A trip of feeder k that goes to OPENING with what is recorded, and TRIP_FEEDER with the capture store's answer. -/
theorem openBreaker_trigger (k : Fin 6) (o : Origin) (e : Element) (sotf : Bool) (d : Dest) (lc : LockCause)
    (bc : BlockCause) (q : Word16) (s : State) :
    s.openBreaker k o e sotf d lc bc q = { s with
      feeder := s.feeder.set k { s.feeder[k] with
                                 state := .opening, origin := o, element := e, sotf := sotf, dest := some d
                                 phase := none, manual := false, timer := some (s.general k).tOpenMax
                                 tripAt := s.elapsed
                                 lockCause := if lc = .none then s.feeder[k].lockCause else lc
                                 blockCause :=
                                   if d = .blocked then (if bc = .none then s.feeder[k].blockCause else bc)
                                   else .none }
      disc := s.disc.set k (s.disc[k].onMove s.feeder[k].state .opening)
      sec := s.sec.set k { s.sec[k] with role := .none }
      cap := (s.trigger (srcTrip k)).1.cap
      events := pushEvent s.events
        (s.event .fpu (k.val + 1) .tripFeeder (pair o.code e.code) q (s.trigger (srcTrip k)).2) } := by
  unfold State.openBreaker
  dsimp only
  rw [moveFeeder_spec, trigger_of_feederActs]
  simp [State.log, State.event, Feeder.take, FState.role, FState.keepsManual]

/-- A discriminator whose feeder leaves CLOSED or CLOSING (R31). -/
theorem onMove_leave (d : Disc) {old new : FState} (h : old.active = true) (hn : new.active = false) :
    d.onMove old new =
      { d with rising := false, rise := none, imaxRun := 0, dtCount := 0, window := 0, windowOpen := false } := by
  have hc : new ≠ .closed := by
    rintro rfl
    cases hn
  simp [Disc.onMove, h, hn, hc, Disc.leave, Disc.quiet]

theorem ownTrip_inactive (k : Fin 6) (t : Trip) (s : State) (h : s.feeder[k].state.active = false) :
    s.ownTrip k t = s := by
  unfold State.ownTrip
  rw [h]
  rfl

/-- The events of an own trip: INTERTRIP_SENT where intertrip_out was clear, then TRIP_FEEDER (R50, R63, R186). -/
def ownTripEvents (k : Fin 6) (t : Trip) (s : State) : List Event :=
  pushEvent
    (if s.sec[k].itOut = true then s.events
     else pushEvent s.events (s.event .sco (k.val + 1) .intertripSent (uword (k.val + 1)) (uword itOwn) .none))
    (s.event .fpu (k.val + 1) .tripFeeder (pair Origin.own.code t.element.code) (word t.quantity)
      (s.trigger (srcTrip k)).2)

/-- An own trip taken in CLOSED or CLOSING (R68). -/
theorem ownTrip_active (k : Fin 6) (t : Trip) (s : State) (h : s.feeder[k].state.active = true) :
    s.ownTrip k t = { s with
      feeder := s.feeder.set k { s.feeder[k] with
        state := .opening, origin := .own, element := t.element, sotf := t.sotf, phase := none, manual := false
        dest := some (if t.sotf = true then .lockedOut else .decide)
        lockCause := if t.sotf = true then .sotf else s.feeder[k].lockCause
        blockCause := .none, timer := some (s.general k).tOpenMax, tripAt := s.elapsed }
      disc := s.disc.set k { s.disc[k] with
        rising := false, rise := none, imaxRun := 0, dtCount := 0, window := 0, windowOpen := false }
      sec := s.sec.set k { s.sec[k] with itOut := true, role := .none }
      events := ownTripEvents k t s
      cap := (s.trigger (srcTrip k)).1.cap } := by
  have hopen : s.ownTrip k t = (s.setItOut k itOwn).openBreaker k .own t.element t.sotf
      (if t.sotf = true then .lockedOut else .decide) (if t.sotf = true then .sotf else .none) .none
      (word t.quantity) := by
    unfold State.ownTrip
    rw [if_pos h]
    split <;> simp_all
  rw [hopen, setItOut_spec, openBreaker_trigger, trigger_of_feederActs (srcTrip k) s s.feeder s.disc]
  dsimp only
  rw [onMove_leave s.disc[k] (new := .opening) h rfl, Vector.set_set, set_same]
  cases t.sotf <;> rfl

/-- Settles O16: the two cases of the feeder's state, each by its equation. -/
theorem ownTripOpensFeeder : Obligations.OwnTripOpensFeeder := by
  refine fun k t s => ⟨fun hc hg => ownTrip_inactive k t s ?_, fun h => ?_⟩
  · exact Bool.eq_false_iff.2 fun ha => ((active_iff _).1 ha).elim hc hg
  · rw [ownTrip_active k t s ((active_iff _).2 h)]
    exact ⟨set_same .., set_same .., set_same .., fun j hj => ⟨set_other _ _ hj, set_other _ _ hj, set_other _ _ hj⟩,
      rfl, rfl⟩

-- ===================================================================== a frame record (R21, R23, R24)

/-- The live run and the test window leave the discriminators (R73, R76). -/
theorem liveWindow_disc (k : Fin 6) (s : State) : ((s.liveStep k).windowStep k).disc = s.disc := by
  have hl : (s.liveStep k).disc = s.disc := by
    unfold State.liveStep
    dsimp only
    split <;> rfl
  have hw (s : State) : (s.windowStep k).disc = s.disc := by
    unfold State.windowStep
    dsimp only
    split <;> rfl
  rw [hw, hl]

/-- A stale record is not counted (R21). -/
theorem feederFrame_stale (k : Fin 6) (s : State) (h : (s.reading (chIF k)).health = .stale) :
    (s.feederFrame k).disc = s.disc := by
  unfold State.feederFrame
  dsimp only
  rw [if_pos h, liveWindow_disc]

/-- An own trip moves the discriminator of its feeder and no other. -/
theorem ownTrip_disc (k : Fin 6) (t : Trip) (s : State) :
    ∃ d, SameFilter s.disc[k] d ∧ (s.ownTrip k t).disc = s.disc.set k d := by
  cases h : s.feeder[k].state.active with
  | false =>
    refine ⟨s.disc[k], sameFilter_refl _, ?_⟩
    rw [ownTrip_inactive k t s h]
    exact (Vector.set_getElem_self _).symm
  | true =>
    refine ⟨_, ?_, congrArg State.disc (ownTrip_active k t s h)⟩
    exact ⟨rfl, rfl, rfl, rfl, rfl⟩

/-- A counted record takes the filter of feeder k one step on and leaves every other discriminator (R21, R23, R24). -/
theorem feederFrame_counted (k : Fin 6) (s : State) (h : (s.reading (chIF k)).health ≠ .stale) :
    ∃ d, SameFilter (s.disc[k].take s.sec[k].active (s.reading (chIF k)).value s.aqu.latest.number) d ∧
      (s.feederFrame k).disc = s.disc.set k d := by
  unfold State.feederFrame
  dsimp only
  rw [if_neg h, liveWindow_disc]
  have hf := frameStep_sameFilter s.disc[k] s.feeder[k].state s.sec[k].active (s.groupRecord k) (s.reading (chIF k))
    s.aqu.latest.number
  generalize s.disc[k].frameStep s.feeder[k].state s.sec[k].active (s.groupRecord k) (s.reading (chIF k))
    s.aqu.latest.number = o at hf ⊢
  have hp : (if o.2.1 = true then ((s.setDisc k o.1).trigger (srcPickup k)).1 else s.setDisc k o.1).disc =
      s.disc.set k o.1 := by
    obtain ⟨c, hc⟩ := trigger_spec (srcPickup k) (s.setDisc k o.1)
    rw [hc]
    split <;> rfl
  generalize (if o.2.1 = true then ((s.setDisc k o.1).trigger (srcPickup k)).1 else s.setDisc k o.1) = u at hp ⊢
  split
  next t _ =>
    obtain ⟨d, hd, ht⟩ := ownTrip_disc k t u
    have hu : u.disc[k] = o.1 := by simp [hp]
    rw [hu] at hd
    exact ⟨d, hf.trans hd, by rw [ht, hp]; simp⟩
  next => exact ⟨o.1, hf, hp⟩

/-- Settles O14: what a counted frame writes, read off the record the filter leaves. -/
theorem filterRunsOnCountedFrames : Obligations.FilterRunsOnCountedFrames := by
  refine fun k s => ⟨feederFrame_stale k s, fun h => ?_⟩
  obtain ⟨d, hf, hd⟩ := feederFrame_counted k s h
  have hk : (s.feederFrame k).disc[k] = d := by rw [hd]; exact set_same ..
  rw [hk]
  obtain ⟨hfull, hshort⟩ := slopeOf_spec s.disc[k] d.filtered
  have hslope : d.slope = s.disc[k].slopeOf d.filtered := by rw [hf.slope, hf.filtered]; rfl
  refine ⟨hf.filtered, ?_, fun o ho => hslope.trans (hfull o ho), fun ho => hslope.trans (hshort ho), hf.frame,
    hf.groupInUse, fun j hj => ?_⟩
  · rw [hf.history, hf.filtered]
    rfl
  · rw [hd]
    exact set_other _ _ hj

-- ===================================================================== the elements (R27..R30, R34)

/-- The record on an active counted frame before a trip is marked: the filter, the rise and the counts. -/
def measured (d : Disc) (g : SetGroup) (c : GroupCfg) (i : Int) (n : Word32) : Disc :=
  ((d.take g i n).track d c).counts c i

/-- An active counted frame in three parts: the record measured, one trip at most until the next close, the window. -/
theorem frameStep_active (d : Disc) (st : FState) (g : SetGroup) (c : GroupCfg) (r : Reading) (n : Word32)
    (hs : st.active = true) (hr : r.health ≠ .failed) :
    d.frameStep st g c r n =
      let u := measured d g c r.value n
      let trip := if d.tripGiven = true then none else u.select c r.value (d.windowOpen || st == .closing)
      ({ u with tripGiven := u.tripGiven || trip.isSome }.countWindow, !d.rising && u.rising, trip) := by
  simp [Disc.frameStep, hs, hr, measured]

/-- What is measured: the mark of a trip given, the number, the run and the counter by their levels. -/
theorem measured_spec (d : Disc) (g : SetGroup) (c : GroupCfg) (i : Int) (n : Word32) :
    let u := measured d g c i n
    u.tripGiven = d.tripGiven ∧ u.frame = n ∧
    u.imaxRun = (if (c.imax : Int) ≤ i then min 2 (d.imaxRun + 1) else 0) ∧
    u.dtCount =
      (if (c.iDt : Int) ≤ u.filtered then min 240000 (d.dtCount + 1)
       else if u.filtered < (c.iDt : Int) - ((c.iDt / 20 : Nat) : Int) then 0 else d.dtCount) := by
  obtain ⟨_, _, _, _, ht⟩ := track_spec (d.take g i n) d c
  simp only [measured, ht]
  exact ⟨rfl, rfl, rfl, rfl⟩

/-- A rise that is measured has a value. -/
theorem measured_rise (d : Disc) (g : SetGroup) (c : GroupCfg) (i : Int) (n : Word32)
    (h : (measured d g c i n).rising = true) : ∃ x, (measured d g c i n).rise = some x :=
  track_rise _ _ _ h

/-- DELTA_I on a rise that has a value (R27, R34). -/
theorem deltaI_iff (d : Disc) (c : GroupCfg) (held : Bool) (hrise : d.rising = true → ∃ x, d.rise = some x) :
    d.deltaI c held = true ↔
      held = false ∧ d.rising = true ∧ 4 * c.diTime ≤ d.elapsed ∧ ∃ i ∈ d.rise, (c.diSet : Int) ≤ i := by
  simp only [Disc.deltaI, Bool.and_eq_true, Bool.not_eq_true', decide_eq_true_eq]
  constructor
  · rintro ⟨⟨⟨hr, hset⟩, htime⟩, hh⟩
    obtain ⟨x, hx⟩ := hrise hr
    rw [hx] at hset
    exact ⟨hh, hr, htime, x, hx, hset⟩
  · rintro ⟨hh, hr, htime, x, hx, hset⟩
    rw [Option.mem_def.1 hx]
    exact ⟨⟨⟨hr, hset⟩, htime⟩, hh⟩

/-- Settles O15: the first true element in the order of R30, on the record measured. -/
theorem elementsTripInOrder : Obligations.ElementsTripInOrder := by
  intro d st g c r n hst hr
  rw [frameStep_active d st g c r n ((active_iff st).2 hst.symm) hr]
  obtain ⟨hgiven, hframe, hrun, hcount⟩ := measured_spec d g c r.value n
  have hrise := measured_rise d g c r.value n
  generalize measured d g c r.value n = u at *
  generalize hheld : (d.windowOpen || st == .closing) = held
  have hdelta := deltaI_iff u c held hrise
  dsimp only [Disc.countWindow]
  refine ⟨hrun, hcount, fun hg => if_pos hg, fun hg => ?_, by rw [hgiven]⟩
  rw [if_neg (by simp [hg])]
  unfold Disc.select
  rw [hframe]
  refine ⟨fun himax => if_pos himax, fun himax i hris hi hset htime hh => ?deltaI, fun himax hn htime => ?defTime,
    fun himax hn htime => ?none⟩
  case deltaI =>
    rw [if_neg himax, if_pos (hdelta.2 ⟨hh, hris, htime, i, hi, hset⟩), hi, hh]
    rfl
  case defTime => rw [if_neg himax, if_neg (mt hdelta.1 hn), if_pos htime]
  case none => rw [if_neg himax, if_neg (mt hdelta.1 hn), if_neg (Nat.not_le.2 htime)]

end Sys2Proof.Proofs
end

section
/-! The expiries of the feeder timers (R33, R60, R61, R74, R75, R81). -/
namespace Sys2Proof.Proofs

open Sys2Proof Sys2Proof.Machine Sys2Proof.Laws

-- ===================================================================== timers (R60, log 1)

/-- A command from outside with nothing due: its own effect alone (log 2). -/
theorem next_settled {f : State → State} {s t : State} (hq : s.quiet = true) (h : f s = t) :
    (.next (f s.settle) : Host.Outcome State Fault Refusal) = .next t := by
  rw [settle_of_quiet hq, h]

/-- The sequence timer of feeder k has run out in a state of the sequence. -/
theorem timing_iff (s : State) (k : Fin 6) (st : FState) :
    s.timing k st = true ↔ s.feeder[k].state = st ∧ s.feeder[k].timer = some 0 := by
  simp [State.timing]

/-- A timer that has not run out is in no state an expiry. -/
theorem timing_running {s : State} {k : Fin 6} (h : s.feeder[k].timer ≠ some 0) (st : FState) : s.timing k st = false :=
  Bool.eq_false_iff.2 fun ht => h ((timing_iff s k st).1 ht).2

/-- No expiry of the sequence timer acts while it has not run out. -/
theorem expiry_running (k : Fin 6) (s : State) (hq : s.quiet = true) (h : s.feeder[k].timer ≠ some 0) :
    ∀ c ∈ [Instr.closeTimerExpiry k, .openTimerExpiry k, .deadTimeExpiry k, .reclaimExpiry k, .settleExpiry k,
      .retryExpiry k, .tWaitExpiry k], exec c s = .next s := by
  have ht := timing_running h
  have hclose : s.closeExpiry k = s := by simp [State.closeExpiry, ht]
  have hopen : s.openExpiry k = s := by simp [State.openExpiry, ht]
  have hdead : s.deadExpiry k = s := by simp [State.deadExpiry, ht]
  have hreclaim : s.reclaimDone k = s := by simp [State.reclaimDone, ht]
  have hsettle : s.settleDone k = s := by simp [State.settleDone, ht]
  have hretry : s.retryDone k = s := by simp [State.retryDone, ht]
  have hwait : s.waitDone k = s := by simp [State.waitDone, ht]
  rw [List.forall_mem_cons, List.forall_mem_cons, List.forall_mem_cons, List.forall_mem_cons, List.forall_mem_cons,
    List.forall_mem_cons, List.forall_mem_singleton]
  exact ⟨next_settled hq hclose, next_settled hq hopen, next_settled hq hdead, next_settled hq hreclaim,
    next_settled hq hsettle, next_settled hq hretry, next_settled hq hwait⟩

/-- Settles O17: each expiry where its condition stands, by the equation of its operation. -/
theorem feederTimersExpire : Obligations.FeederTimersExpire := by
  refine ⟨fun k s => ⟨fun hopen hzero => ?sotf, fun hq hst ht => ?reclaim, fun hq hst hph ht => ?settle,
    fun hq ht => expiry_running k s hq ht⟩, fun k s hq hst ht hb => ?close⟩
  case sotf =>
    have hdue : s.sotfDue k = true := Bool.and_eq_true_iff.2 ⟨hopen, beq_iff_eq.2 hzero⟩
    exact congrArg Host.Outcome.next (if_pos hdue)
  case reclaim => exact next_settled hq (if_pos ((timing_iff s k .closed).2 ⟨hst, ht⟩))
  case settle =>
    exact next_settled hq (if_pos (Bool.and_eq_true_iff.2 ⟨(timing_iff s k .lineTest).2 ⟨hst, ht⟩, beq_iff_eq.2 hph⟩))
  case close =>
    have hexp : s.closeExpiry k = s.lockOut k .closeFail := if_pos <| Bool.and_eq_true_iff.2
      ⟨(timing_iff s k .closing).2 ⟨hst, ht⟩, by rw [State.bfbClosed, hb]; rfl⟩
    have hleave : s.disc[k].onMove s.feeder[k].state .lockedOut =
        { s.disc[k] with
          rising := false, rise := none, imaxRun := 0, dtCount := 0, window := 0, windowOpen := false } :=
      onMove_leave _ ((active_iff _).2 (.inr hst)) rfl
    refine ⟨_, next_settled hq hexp, ?_⟩
    rw [lockOut_spec, hleave]
    exact ⟨⟨rfl, fun j hj => ⟨set_other _ _ hj, set_other _ _ hj, set_other _ _ hj⟩⟩, set_same .., set_same ..,
      set_same .., rfl⟩

end Sys2Proof.Proofs
end

section
/-! A request on a free port and its answer (R152, R197, R200), and the records the part returns as they stand (R38, R56,
R88, R133). -/
namespace Sys2Proof.Proofs

open Sys2Proof Sys2Proof.Machine Sys2Proof.Laws

-- ===================================================================== requests

/-- A request that a free port hears while the station computer counts as PRESENT. -/
theorem hostHeard_present (s : State) (hp : s.sts.present = true) :
    (s.setCmp { s.cmp with receiving := false, rx := [] }).hostHeard = s.heard := by
  have hsts (x : Option Nat) : { s.sts with present := true, supTimer := x } = { s.sts with supTimer := x } := by
    rw [← hp]
  unfold State.hostHeard
  dsimp only
  rw [State.setCmp_sts, if_pos hp, hsts]
  rfl

/-- A request taken by a port that is ready is replied to with what its owner answers. -/
theorem answers_of_ready {c : Instr} {kind tag : Byte} {pl : List Byte} {answer : State → Answer} {s t : State}
    {st : Status} {p : Payload} (hr : s.ready) (hc : exec c s = .next (s.settle.request kind tag pl answer))
    (hf : payloadFits pl = true) (ha : answer s.heard = { state := t, status := st, payload := p }) :
    Answers c s kind tag t st p := by
  obtain ⟨hq, hreply, hrestart, hpresent⟩ := hr
  have hh := hostHeard_present s hpresent
  have ht := takeRequest_free kind tag answer (s.setCmp { s.cmp with receiving := false, rx := [] })
    (by rw [hh]; exact hrestart) (by rw [hh]; exact hreply)
  rw [Answers, hc, settle_of_quiet hq, State.request, if_pos hf]
  dsimp only
  rw [ht, hh, ha]
  rfl

/-- A payload of a few bytes fits a control frame (R194). -/
theorem payloadFits_of_length {pl : List Byte} (n : Nat) (h : pl.length = n) (hn : n ≤ 512 := by decide) :
    payloadFits pl = true := by
  rw [payloadFits, h]
  exact decide_eq_true hn

/-- A feeder argument names the feeder it numbers (R200). -/
theorem feederArg_spec (k : Fin 6) : feederArg [BitVec.ofNat 8 (k.val + 1)] = some k := by
  revert k
  decide

-- ===================================================================== the records read

/-- Whether each cause of a group is among those returned (R124, R133). -/
theorem presentCauses_iff (s : State) (g : Fin 2) :
    (GCause.overcurrent ∈ s.presentCauses g ↔ s.group[g].overcurrent = true) ∧
    (GCause.temp ∈ s.presentCauses g ↔ s.group[g].temp = true) ∧
    (GCause.channel ∈ s.presentCauses g ↔ s.group[g].channel = true) ∧
    (GCause.syncLost ∈ s.presentCauses g ↔ s.sync[g].locked = false) := by
  unfold State.presentCauses
  cases s.group[g].overcurrent <;> cases s.group[g].temp <;> cases s.sync[g].locked <;> cases s.group[g].channel <;>
    decide

theorem fires_iff (st : GState) : st.fires = true ↔ st = .starting ∨ st = .running := by
  cases st <;> simp [GState.fires]

theorem feeds_iff (m : Mode) : m.feeds = true ↔ m = .normal ∨ m = .reduced := by
  cases m <;> simp [Mode.feeds]

/-- Firing is permitted under three conditions (R116). -/
theorem firingPermitted_iff (s : State) (g : Fin 2) :
    s.firingPermitted g = true ↔
      (s.group[g].state = .starting ∨ s.group[g].state = .running) ∧ s.sync[g].locked = true ∧
      (s.sts.mode = .normal ∨ s.sts.mode = .reduced) := by
  rw [State.firingPermitted, Bool.and_eq_true, Bool.and_eq_true, fires_iff, feeds_iff, and_assoc]

/-- The six feeders, and the four partner entries, in order. -/
theorem feeders6_getElem (k : Fin 6) : feeders6[k.val]? = some k := by
  revert k
  decide

theorem partners4_getElem (j : Fin 4) : partners4[j.val]? = some j := by
  revert j
  decide

/-- Settles O24: each request's answer, its content read field by field. -/
theorem recordsReadAsTheyStand : Obligations.RecordsReadAsTheyStand := by
  refine ⟨fun k tag s hr => ?feeder, fun tag s hr => ?sections, fun tag s hr => ?groups⟩
  case feeder =>
    have ha : State.answerReadFeeder [BitVec.ofNat 8 (k.val + 1)] s.heard =
        s.heard.ok (.feeder (s.heard.feederView k)) := by
      unfold State.answerReadFeeder withArg
      rw [feederArg_spec]
      rfl
    exact ⟨_, answers_of_ready hr rfl (payloadFits_of_length 1 rfl) ha, rfl, rfl, rfl, rfl, rfl, rfl, rfl, rfl, rfl, rfl,
      rfl, rfl, rfl, rfl, rfl, rfl, rfl, rfl, rfl, rfl, rfl, rfl, rfl, rfl, rfl, rfl, rfl, rfl, rfl,
      fun h => if_pos h, fun h => if_neg h, fun h => if_pos h, fun h => if_neg (Bool.eq_false_iff.1 h)⟩
  case sections =>
    refine ⟨feeders6.map s.sectionView, partners4.map s.partnerView,
      answers_of_ready hr rfl (payloadFits_of_length 0 rfl) rfl, rfl, rfl, fun k => ?_, fun j => ?_⟩
    · rw [List.getElem?_map, feeders6_getElem]
      rfl
    · rw [List.getElem?_map, partners4_getElem]
      rfl
  case groups =>
    refine ⟨s.groupView, answers_of_ready hr rfl (payloadFits_of_length 0 rfl) rfl, fun g => ?_⟩
    exact ⟨rfl, rfl, rfl, rfl, rfl, rfl, rfl, rfl, rfl, rfl, rfl, rfl, rfl, rfl, rfl, firingPermitted_iff s g,
      presentCauses_iff s g⟩

end Sys2Proof.Proofs
end

section
/-! The records of the settings store: the bytes of a group record (R18, section 11.3), the validation of group and CAPTURE
records (R18, R19, R183, R206), and Read Setting and Write Setting up to the hand-over to the owner (R206, R42, R166). -/
namespace Sys2Proof.Proofs

open Sys2Proof Sys2Proof.Machine Sys2Proof.Laws

-- ===================================================================== bytes of a group record (section 11.3)

/-- The number that the two bytes, or the one byte, of a field spell. -/
theorem beNat_two (n : Nat) : beNat [BitVec.ofNat 8 (n / 256), BitVec.ofNat 8 n] = n % 65536 := by
  simp only [beNat, List.foldl_cons, List.foldl_nil, BitVec.toNat_ofNat]
  omega

theorem beNat_one (b : Byte) : beNat [b] = b.toNat := by simp [beNat]

/-- The bytes of a group record, one by one. -/
theorem encodeGroup_eq (g : GroupCfg) :
    encodeGroup g =
      [BitVec.ofNat 8 (g.imax / 256), BitVec.ofNat 8 g.imax, BitVec.ofNat 8 (g.diSet / 256), BitVec.ofNat 8 g.diSet,
       BitVec.ofNat 8 g.diTime, BitVec.ofNat 8 (g.didtStart / 256), BitVec.ofNat 8 g.didtStart,
       BitVec.ofNat 8 (g.didtHold / 256), BitVec.ofNat 8 g.didtHold, BitVec.ofNat 8 (g.iDt / 256),
       BitVec.ofNat 8 g.iDt, BitVec.ofNat 8 (g.tDt / 256), BitVec.ofNat 8 g.tDt] := by
  simp [encodeGroup, beBytes]

/-- The fields of a group record that its bytes can hold. -/
structure GroupFits (g : GroupCfg) : Prop where
  imax : g.imax < 65536
  diSet : g.diSet < 65536
  diTime : g.diTime < 256
  didtStart : g.didtStart < 65536
  didtHold : g.didtHold < 65536
  iDt : g.iDt < 65536
  tDt : g.tDt < 65536

/-- A group record is read back from its bytes. -/
theorem parseGroup_encodeGroup {g : GroupCfg} (h : GroupFits g) : parseGroup (encodeGroup g) = g := by
  obtain ⟨himax, hset, htime, hstart, hhold, hidt, htdt⟩ := h
  rw [encodeGroup_eq]
  simp only [parseGroup, field, List.drop_succ_cons, List.drop_zero, List.take_succ_cons, List.take_zero, beNat_two,
    beNat_one, BitVec.toNat_ofNat, Nat.mod_eq_of_lt himax, Nat.mod_eq_of_lt hset, Nat.mod_eq_of_lt hstart,
    Nat.mod_eq_of_lt hhold, Nat.mod_eq_of_lt hidt, Nat.mod_eq_of_lt htdt]
  rw [Nat.mod_eq_of_lt (by simpa using htime)]

-- ===================================================================== validation (R206)

theorem inRange_of {lo hi v : Nat} (h : lo ≤ v) (h' : v ≤ hi) : inRange lo hi v = true := by simp [inRange, h, h']

theorem onStep_of {lo hi step v : Nat} (h : lo ≤ v) (h' : v ≤ hi) (hs : v % step = 0) : onStep lo hi step v = true := by
  simp [onStep, inRange_of h h', hs]

/-- The fields of a group record in their ranges, with I_DT below IMAX; DIDT_HOLD has its lower limit (R18, R19). -/
structure GroupRanges (g : GroupCfg) : Prop where
  imax : onStep 1000 8000 10 g.imax = true
  diSet : onStep 200 4000 10 g.diSet = true
  diTime : inRange 1 200 g.diTime = true
  didtStart : inRange 10 2000 g.didtStart = true
  didtHold : 5 ≤ g.didtHold
  iDt : onStep 200 6000 10 g.iDt = true
  tDt : inRange 100 60000 g.tDt = true
  below : g.iDt < g.imax

/-- The tests of a group record speak of the fields its bytes spell. -/
theorem groupTests_eq (r : List Byte) :
    groupTests r =
      [(onStep 1000 8000 10 (parseGroup r).imax, 0), (onStep 200 4000 10 (parseGroup r).diSet, 2),
       (inRange 1 200 (parseGroup r).diTime, 4), (inRange 10 2000 (parseGroup r).didtStart, 5),
       (decide (5 ≤ (parseGroup r).didtHold), 7), (onStep 200 6000 10 (parseGroup r).iDt, 9),
       (inRange 100 60000 (parseGroup r).tDt, 11), (decide ((parseGroup r).didtHold ≤ (parseGroup r).didtStart), 7),
       (decide ((parseGroup r).iDt < (parseGroup r).imax), 9)] := rfl

/-- A group record in its ranges fails at DIDT_HOLD, where that is above DIDT_START, or nowhere (R19). -/
theorem firstBad_groupTests {g : GroupCfg} (hf : GroupFits g) (hr : GroupRanges g) :
    firstBad (groupTests (encodeGroup g)) = if g.didtHold ≤ g.didtStart then none else some 7 := by
  obtain ⟨himax, hset, htime, hstart, hhold, hidt, htdt, hbelow⟩ := hr
  rw [groupTests_eq, parseGroup_encodeGroup hf, himax, hset, htime, hstart, decide_eq_true hhold, hidt, htdt,
    decide_eq_true hbelow]
  by_cases hh : g.didtHold ≤ g.didtStart
  · rw [if_pos hh, decide_eq_true hh]
    rfl
  · rw [if_neg hh, decide_eq_false hh]
    rfl

/-- A listed channel number of a CAPTURE record. -/
theorem listedChannels_getElem {r : List Byte} (hr : r.length = 15) {j : Nat} (hj : j < field r 0 1)
    (hc : field r 0 1 ≤ 8) : (listedChannels r)[j]? = some (field r (1 + j) 1) := by
  have hlt : 1 + j < r.length := by omega
  have hbyte : (r.drop (1 + j)).take 1 = [r[1 + j]] := by
    rw [List.drop_eq_getElem_cons hlt]
    rfl
  rw [listedChannels, List.getElem?_map, List.getElem?_take_of_lt hj, List.getElem?_take_of_lt (by omega),
    List.getElem?_drop, List.getElem?_eq_getElem hlt, field, hbyte, beNat_one]
  rfl

/-- A number past 16, or one listed twice, makes the list invalid (R183). -/
theorem channelListValid_false {l : List Nat} {j n : Nat} (hj : l[j]? = some n)
    (h : 16 < n ∨ ∃ i, i < j ∧ l[i]? = some n) : channelListValid l = false := by
  refine Bool.eq_false_iff.2 fun hv => ?_
  obtain ⟨hall, hnodup⟩ := Bool.and_eq_true_iff.1 hv
  obtain hbig | ⟨i, hij, hi⟩ := h
  · have := of_decide_eq_true (List.all_eq_true.1 hall n (List.mem_of_getElem? hj))
    omega
  · have hlen := (List.getElem?_eq_some_iff.1 hi).1
    exact hij.ne ((List.getElem?_inj hlen (of_decide_eq_true hnodup)).1 (hi.trans hj.symm))

/-- A CAPTURE record that lists a number past 16, or one twice, fails at offset 1, whatever its later fields (R183, R206,
log 26). -/
theorem firstBad_captureTests {r : List Byte} (hl : r.length = 15) (h1 : 1 ≤ field r 0 1) (h8 : field r 0 1 ≤ 8)
    (h : ∃ j, j < field r 0 1 ∧
      (16 < field r (1 + j) 1 ∨ ∃ i, i < j ∧ field r (1 + i) 1 = field r (1 + j) 1)) :
    firstBad (captureTests r) = some 1 := by
  obtain ⟨j, hj, hbad⟩ := h
  have hlist : channelListValid (listedChannels r) = false := by
    refine channelListValid_false (listedChannels_getElem hl hj h8) (hbad.imp_right ?_)
    rintro ⟨i, hij, hi⟩
    exact ⟨i, hij, by rw [listedChannels_getElem hl (hij.trans hj) h8, hi]⟩
  rw [captureTests, inRange_of h1 h8, hlist]
  rfl

-- ===================================================================== the records by code (section 11.1)

/-- The kind and index bytes of a record. -/
def recCode : RecId → Byte × Byte
  | .station => (1, 0)
  | .general k => (2, BitVec.ofNat 8 (k.val + 1))
  | .groupA k => (3, BitVec.ofNat 8 (k.val + 1))
  | .groupB k => (4, BitVec.ofNat 8 (k.val + 1))
  | .sectionRec k => (5, BitVec.ofNat 8 (k.val + 1))
  | .partner j => (6, BitVec.ofNat 8 (j.val + 1))
  | .terminal i => (7, BitVec.ofNat 8 (i.val + 1))
  | .capture => (8, 0)

theorem recordLength_recCode (id : RecId) : recordLength (recCode id).1.toNat = some id.length := by
  cases id <;> rfl

/-- The bytes name the record. -/
theorem ofCodes_recCode (id : RecId) : RecId.ofCodes (recCode id).1.toNat (recCode id).2.toNat = some id := by
  cases id with
  | station | capture => rfl
  | general k | groupA k | groupB k | sectionRec k | partner k | terminal k =>
    revert k
    decide

/-- A kind byte outside 1..8 names no record. -/
theorem recordLength_outside {b : Byte} (h : b.toNat = 0 ∨ 8 < b.toNat) : recordLength b.toNat = none := by
  obtain h | h := h
  · rw [h]
    rfl
  · obtain ⟨n, hn⟩ := Nat.exists_eq_add_of_le' h
    rw [hn]
    rfl

/-- An index byte outside 1..6 names no group record. -/
theorem ofCodes_groupA_outside {b : Byte} (h : b.toNat = 0 ∨ 6 < b.toNat) : RecId.ofCodes 3 b.toNat = none := by
  have hn : index1 6 b.toNat = none := dif_neg (by omega)
  simp only [RecId.ofCodes, hn, Option.map_none]

theorem withRecord_recCode (id : RecId) (s : State) (f : RecId → Answer) :
    s.withRecord (recCode id).1 (recCode id).2 f = f id := by
  rw [State.withRecord, recordLength_recCode, ofCodes_recCode]

theorem writeLengthOk_recCode (id : RecId) (rest : List Byte) (h : rest.length = id.length + 1) :
    writeLengthOk ((recCode id).1 :: rest) = true := by
  simp [writeLengthOk, recordLength_recCode, h]

-- ===================================================================== Read Setting and Write Setting (R206)

/-- A record named is read as it stands. -/
theorem readSetting_answers (id : RecId) (tag : Byte) {s : State} (hr : s.ready) :
    Answers (.readSetting tag [(recCode id).1, (recCode id).2]) s 0x50 tag s.heard .ok
      (.setting (recCode id).1 (recCode id).2 (s.cfg.encode id)) :=
  answers_of_ready hr rfl (payloadFits_of_length 2 rfl) (withRecord_recCode id s.heard _)

/-- A record named, with the bytes of its length, is judged by the settings store. -/
theorem writeSetting_answers (id : RecId) (tag : Byte) {record : List Byte} {s t : State} {st : Status} {p : Payload}
    (hr : s.ready) (hl : record.length = id.length)
    (hw : s.heard.writeRequest (recCode id).1 (recCode id).2 record id = { state := t, status := st, payload := p }) :
    Answers (.writeSetting tag ((recCode id).1 :: (recCode id).2 :: record)) s 0x51 tag t st p := by
  have hlen : id.length + 2 ≤ 512 := by cases id <;> simp [RecId.length]
  refine answers_of_ready hr rfl (payloadFits_of_length (id.length + 2) (by simp [hl]) hlen) ?_
  rw [State.answerWriteSetting, if_pos (writeLengthOk_recCode id _ (by simp [hl]))]
  exact (withRecord_recCode id s.heard _).trans hw

/-- Outside IDLE the store is BUSY. -/
theorem writeSetting_busy (id : RecId) (tag : Byte) {record : List Byte} {s : State} (hr : s.ready)
    (hl : record.length = id.length) (ha : s.sst.activity ≠ .idle) :
    Answers (.writeSetting tag ((recCode id).1 :: (recCode id).2 :: record)) s 0x51 tag s.heard .busy
      (.setting (recCode id).1 (recCode id).2 []) :=
  writeSetting_answers id tag hr hl (if_pos ha)

/-- A record that fails a test is refused with the offset of the test. -/
theorem writeSetting_bad (id : RecId) (tag : Byte) {record : List Byte} {s : State} {off : Nat} (hr : s.ready)
    (hl : record.length = id.length) (ha : s.sst.activity = .idle) (hb : s.cfg.badOffset record id = some off) :
    Answers (.writeSetting tag ((recCode id).1 :: (recCode id).2 :: record)) s 0x51 tag s.heard .badSetting
      (.offset off) := by
  refine writeSetting_answers id tag hr hl ((if_neg (not_not.2 ha)).trans ?_)
  have hb' : s.heard.cfg.badOffset record id = some off := hb
  rw [hb']
  rfl

/-- A record that passes its tests and may not be written now is refused (R42, R166). -/
theorem writeSetting_refused (id : RecId) (tag : Byte) {record : List Byte} {s : State} {p : Payload} (hr : s.ready)
    (hl : record.length = id.length) (ha : s.sst.activity = .idle) (hb : s.cfg.badOffset record id = none)
    (hw : s.writeRestriction id = some p) :
    Answers (.writeSetting tag ((recCode id).1 :: (recCode id).2 :: record)) s 0x51 tag s.heard .refusedState p := by
  refine writeSetting_answers id tag hr hl ((if_neg (not_not.2 ha)).trans ?_)
  have hb' : s.heard.cfg.badOffset record id = none := hb
  have hw' : s.heard.writeRestriction id = some p := hw
  rw [hb', hw']
  rfl

/-- s after a free port has received a Write Setting that is taken, before the record's owner acts: the live record
replaced, the confirmation mark set where the settings were lost. -/
def recordLive (id : RecId) (record : List Byte) (s : State) : State :=
  { s.heard with sst := { s.sst with live := s.cfg.put record id, confirm := s.sst.confirm || s.sst.lost } }

end Sys2Proof.Proofs
end

section
/-! What the owner of a STATION, SECTION or PARTNER record does at once with its replacement (R43, R44, R46, R47, R97,
R120, R152). -/
namespace Sys2Proof.Proofs

open Sys2Proof Sys2Proof.Machine Sys2Proof.Laws

-- ===================================================================== STATION (R120, R152)

/-- A group under a new αMIN: the angle of one that fires rises to it. -/
def raised (alphaMin : Nat) (r : GroupRec) : GroupRec :=
  if r.state.fires = true then { r with alpha := max r.alpha alphaMin } else r

theorem raiseAlpha_eq (g : Fin 2) (s : State) :
    s.raiseAlpha g = { s with group := s.group.set g (raised s.station.alphaMin s.group[g]) } := by
  unfold State.raiseAlpha raised
  dsimp only
  split
  · rfl
  · have hset : s.group.set g s.group[g] = s.group := Vector.set_getElem_self _
    rw [hset]

/-- The supervision timer stops where supervision is turned off. -/
theorem stationReplaced_spec (s : State) :
    ∃ v : Vector GroupRec 2, (∀ g : Fin 2, v[g] = raised s.station.alphaMin s.group[g]) ∧
      s.stationReplaced = { s with
        group := v
        sts := { s.sts with
                 supTimer := if s.station.hostSupervision = 0 then none else s.sts.supTimer } } := by
  have h01 : (0 : Fin 2) ≠ 1 := by decide
  refine ⟨(s.group.set (0 : Fin 2) (raised s.station.alphaMin s.group[(0 : Fin 2)])).set (1 : Fin 2)
    (raised s.station.alphaMin s.group[(1 : Fin 2)]), fun g => ?_, ?_⟩
  · obtain rfl | rfl : g = 0 ∨ g = 1 := by
      revert g
      decide
    · rw [set_other _ _ h01, set_same]
    · rw [set_same]
  · unfold State.stationReplaced
    rw [groups2, List.foldl_cons, List.foldl_cons, List.foldl_nil, raiseAlpha_eq, raiseAlpha_eq]
    dsimp only
    rw [set_other _ _ h01.symm]
    by_cases h : s.station.hostSupervision = 0
    · rw [if_pos h]
      exact if_pos h
    · rw [if_neg h]
      exact if_neg h

-- ===================================================================== sections cleared (R43, R46, R47)

/-- A section whose partner fields are cleared: it is fed as SINGLE. -/
def clearedSection (c : Section) : Section := { c.clearPartner with double := false }

/-- The event of a section that falls to SINGLE (R48). -/
def singleEvents (k : Fin 6) (double : Bool) (s : State) : List Event :=
  if double = true then
    pushEvent s.events (s.event .sco (k.val + 1) .groupChange (BitVec.ofNat 16 (k.val + 1)) 1 .none)
  else s.events

theorem singleEvents_grow (k : Fin 6) (double : Bool) (s : State) : EventsGrow s.events (singleEvents k double s) := by
  unfold singleEvents
  split
  · exact (EventsGrow.refl _).push _
  · exact .refl _

/-- A section whose partner is UNKNOWN is not known to be fed from both ends. -/
theorem fedDouble_unknown (k : Fin 6) (s : State) (h : s.sec[k].summary = .unknown) : s.fedDouble k = false := by
  unfold State.fedDouble
  split
  · rfl
  · rw [h]
    exact Bool.and_false _

theorem reevaluate_unknown (k : Fin 6) (s : State) (h : s.sec[k].summary = .unknown) :
    s.reevaluate k = { s with
      sec := s.sec.set k { s.sec[k] with double := false }, events := singleEvents k s.sec[k].double s } := by
  unfold State.reevaluate singleEvents
  rw [fedDouble_unknown k s h]
  cases hd : s.sec[k].double with
  | false =>
    have hset : s.sec.set k { s.sec[k] with double := false } = s.sec := by
      rw [← hd]
      exact Vector.set_getElem_self _
    rw [hset]
    rfl
  | true => rfl

/-- A change of a partner's summary, and a partner lost, mean nothing to a feeder in which a record can be written. -/
theorem summaryChanged_writable (k : Fin 6) (s : State) (h : s.feeder[k].state.writable = true) :
    s.summaryChanged k = s := by
  have hw : s.feeder[k].state ≠ .waitPartner := fun e => by rw [e] at h; cases h
  have ht : s.feeder[k].state ≠ .lineTest := fun e => by rw [e] at h; cases h
  have ha : s.mustAbandon k = false := by simp only [State.mustAbandon, beq_false_of_ne ht, Bool.false_and]
  unfold State.summaryChanged State.abandonTest
  rw [if_neg fun e => hw e.1, ha]
  rfl

theorem linkLost_writable (k : Fin 6) (s : State) (h : s.feeder[k].state.writable = true) : s.linkLost k = s :=
  if_neg fun e => by rw [e] at h; cases h

/-- A replaced SECTION record with its feeder OPEN, BLOCKED or LOCKED_OUT (R43). -/
theorem sectionReplaced_writable (k : Fin 6) (s : State) (h : s.feeder[k].state.writable = true) :
    s.sectionReplaced k = { s with
      sec := s.sec.set k (clearedSection s.sec[k]), events := singleEvents k s.sec[k].double s } := by
  have hk : (s.setSec k s.sec[k].clearPartner).sec[k] = s.sec[k].clearPartner := State.setSec_self ..
  have hsum : (if (s.setSec k s.sec[k].clearPartner).sec[k].summary = s.sec[k].summary then
      s.setSec k s.sec[k].clearPartner else (s.setSec k s.sec[k].clearPartner).summaryChanged k) =
      s.setSec k s.sec[k].clearPartner := by
    rw [summaryChanged_writable k (s.setSec k _) h, ite_self]
  have hit : (s.setSec k s.sec[k].clearPartner).handIntertrip k s.sec[k].itIn partTelegram =
      s.setSec k s.sec[k].clearPartner := by
    refine if_neg fun hrise => ?_
    obtain ⟨hbefore, hafter⟩ := hrise
    rw [hk] at hafter
    have hterm : s.sec[k].itTerminal = true := hafter
    rw [Section.itIn, hterm, Bool.or_true] at hbefore
    cases hbefore
  unfold State.sectionReplaced State.handSection
  dsimp only
  rw [hsum, hit, reevaluate_unknown k _ (by rw [hk]; rfl), hk]
  rw [State.setSec_sec, Vector.set_set]
  rfl

/-- A fold over feeders that writes into the sections naming a partner entry, each from what it was, and otherwise only
logs. -/
theorem foldl_sections {f : State → Fin 6 → State} {g : Section → Section} {p : Section → Prop} (j : Fin 4)
    (hf : ∀ (k : Fin 6) (s : State), p s.sec[k] →
      ∃ e, EventsGrow s.events e ∧ f s k = { s with sec := s.sec.set k (g s.sec[k]), events := e })
    (l : List (Fin 6)) (hl : l.Nodup) (s : State) (hp : ∀ k ∈ l, s.names k j = true → p s.sec[k]) :
    ∃ (v : Vector Section 6) (e : List Event), EventsGrow s.events e ∧
      l.foldl (fun s k => if s.names k j then f s k else s) s = { s with sec := v, events := e } ∧
      ∀ k : Fin 6, v[k] = if k ∈ l ∧ s.names k j = true then g s.sec[k] else s.sec[k] := by
  induction l generalizing s with
  | nil => exact ⟨s.sec, s.events, .refl _, rfl, fun k => by simp⟩
  | cons a l ih =>
    obtain ⟨hal, hl⟩ := List.nodup_cons.1 hl
    rw [List.foldl_cons]
    by_cases ha : s.names a j = true
    · obtain ⟨e, hge, he⟩ := hf a s (hp a List.mem_cons_self ha)
      rw [if_pos ha, he]
      have hsec {k : Fin 6} (hk : k ∈ l) : (s.sec.set a (g s.sec[a]))[k] = s.sec[k] :=
        set_other _ _ fun h => hal (h ▸ hk)
      obtain ⟨v, e', hge', he', hv⟩ := ih hl { s with sec := s.sec.set a (g s.sec[a]), events := e }
        fun k hk hn => by rw [hsec hk]; exact hp k (List.mem_cons_of_mem _ hk) hn
      refine ⟨v, e', hge.trans hge', he', fun k => (hv k).trans ?_⟩
      have hn : ({ s with sec := s.sec.set a (g s.sec[a]), events := e } : State).names k j = s.names k j := rfl
      rw [hn]
      by_cases hka : k = a
      · subst hka
        simp [hal, ha]
      · rw [set_other _ _ hka]
        simp [hka]
    · rw [if_neg ha]
      obtain ⟨v, e, hge, he, hv⟩ := ih hl s fun k hk => hp k (List.mem_cons_of_mem _ hk)
      refine ⟨v, e, hge, he, fun k => (hv k).trans ?_⟩
      by_cases hka : k = a
      · subst hka
        simp [hal, ha]
      · simp [hka]

theorem feeders6_nodup : feeders6.Nodup := by decide

theorem mem_feeders6 (k : Fin 6) : k ∈ feeders6 := by
  revert k
  decide

/-- Every section that names an entry is cleared, every other one stays (R46, R47). -/
theorem clearSections_spec (j : Fin 4) (s : State) :
    ∃ (v : Vector Section 6) (e : List Event), EventsGrow s.events e ∧
      s.clearSections j = { s with sec := v, events := e } ∧
      ∀ k : Fin 6, v[k] = if s.names k j = true then clearedSection s.sec[k] else s.sec[k] := by
  obtain ⟨v, e, hge, he, hv⟩ := foldl_sections (f := fun s k => s.setSec k s.sec[k].clearPartner)
    (g := Section.clearPartner) (p := fun _ => True) j (fun k s _ => ⟨s.events, .refl _, rfl⟩) feeders6 feeders6_nodup s
    fun _ _ _ => trivial
  obtain ⟨v', e', hge', he', hv'⟩ := foldl_sections (f := fun s k => s.reevaluate k)
    (g := fun c => { c with double := false }) (p := fun c => c.summary = .unknown) j
    (fun k s h => ⟨_, singleEvents_grow k _ s, reevaluate_unknown k s h⟩) feeders6 feeders6_nodup
    { s with sec := v, events := e } fun k hk hn => by
      rw [hv k, if_pos ⟨hk, hn⟩]
      rfl
  refine ⟨v', e', hge.trans hge', ?_, fun k => ?_⟩
  · unfold State.clearSections
    dsimp only
    rw [he]
    exact he'
  · have hn : ({ s with sec := v, events := e } : State).names k j = s.names k j := rfl
    rw [hv' k, hn]
    dsimp only
    rw [hv k]
    simp only [mem_feeders6, true_and]
    split <;> rfl

-- ===================================================================== PARTNER (R44, R97)

/-- The link of a replaced partner entry: DOWN and supervised afresh, with no latest telegram (log 20). -/
def freshLink (l : LinkRec) : LinkRec :=
  { l with
    up := false, upCount := 0, lastSeq := none, nextSeq := 0, timeout := none, mode := none, groups := 0
    lastAccepted := none, held := none }

/-- A port's queue without the OWN telegrams for an address (R97). -/
def withoutOwn (address : Nat) (r : PortRec) : PortRec :=
  { r with queue := r.queue.filter fun x => !(x.own && x.telegram.dest == BitVec.ofNat 8 address) }

/-- The event of a link that the replacement takes DOWN. -/
def reconfiguredEvents (j : Fin 4) (s : State) : List Event :=
  if s.link[j].up = true then
    pushEvent s.events
      (s.event .nlc (11 + j.val) .linkState 4 (BitVec.ofNat 16 (linkCauseCode .reconfigured)) .none)
  else s.events

/-- A PARTNER record replaced, before the sections and feeders that name the entry are told. -/
def entryReplaced (j : Fin 4) (old : PartnerCfg) (s : State) : State :=
  ({ s with link := s.link.set j (freshLink s.link[j]), events := reconfiguredEvents j s } : State).setPort old.port
    (withoutOwn old.address (s.port old.port))

/-- The link is fresh, the old port's queue is without the OWN telegrams for the old address, and nothing else changes
but the events. -/
theorem entryReplaced_spec (j : Fin 4) (old : PartnerCfg) (s : State) :
    (entryReplaced j old s).link = s.link.set j (freshLink s.link[j]) ∧
    (entryReplaced j old s).port old.port = withoutOwn old.address (s.port old.port) ∧
    (entryReplaced j old s).port (otherPort old.port) = s.port (otherPort old.port) ∧
    entryReplaced j old s = { s with
      link := (entryReplaced j old s).link, upPort := (entryReplaced j old s).upPort
      dnPort := (entryReplaced j old s).dnPort, events := reconfiguredEvents j s } := by
  unfold entryReplaced
  cases old.port <;> exact ⟨rfl, rfl, rfl, rfl⟩

theorem port_of_sections (p : Port) (v : Vector Section 6) (e : List Event) (s : State) :
    ({ s with sec := v, events := e } : State).port p = s.port p := by cases p <;> rfl

theorem partnerReplaced_eq (j : Fin 4) (old : PartnerCfg) (s : State) :
    s.partnerReplaced j old =
      if s.link[j].up = true then ((entryReplaced j old s).clearSections j).handLinkLost j
      else (entryReplaced j old s).clearSections j := by
  unfold State.partnerReplaced entryReplaced reconfiguredEvents
  cases old.port <;> cases s.link[j].up <;> rfl

/-- A replaced PARTNER record with every feeder concerned OPEN, BLOCKED or LOCKED_OUT. -/
theorem partnerReplaced_writable (j : Fin 4) (old : PartnerCfg) (s : State)
    (h : ∀ k : Fin 6, s.names k j = true → s.feeder[k].state.writable = true) :
    ∃ (v : Vector Section 6) (e : List Event), EventsGrow (reconfiguredEvents j s) e ∧
      s.partnerReplaced j old = { entryReplaced j old s with sec := v, events := e } ∧
      ∀ k : Fin 6, v[k] = if s.names k j = true then clearedSection s.sec[k] else s.sec[k] := by
  obtain ⟨v, e, hge, he, hv⟩ := clearSections_spec j (entryReplaced j old s)
  have hnames (k : Fin 6) : (entryReplaced j old s).names k j = s.names k j := by
    unfold entryReplaced
    cases old.port <;> rfl
  have hfeeder : (entryReplaced j old s).feeder = s.feeder := State.setPort_feeder ..
  have hsec : (entryReplaced j old s).sec = s.sec := State.setPort_sec ..
  have hlost : ((entryReplaced j old s).clearSections j).handLinkLost j = (entryReplaced j old s).clearSections j := by
    rw [he]
    refine foldl_id _ _ _ fun k _ => ?_
    split
    next hn => exact linkLost_writable k _ (by rw [hfeeder]; exact h k ((hnames k).symm.trans hn))
    next => rfl
  refine ⟨v, e, ?_, ?_, fun k => ?_⟩
  · rw [entryReplaced, State.setPort_events] at hge
    exact hge
  · rw [partnerReplaced_eq, hlost, ite_self, he]
  · rw [hv k, hnames, hsec]

end Sys2Proof.Proofs
end

section
/-! What the terminal block and the owners of the functions do with a TERMINAL record (R167): the terminal's own record, the
function left, and the first level handed on. -/
namespace Sys2Proof.Proofs

open Sys2Proof Sys2Proof.Machine Sys2Proof.Laws

-- ===================================================================== the TEMP cause (R124)

/-- The group states and the station mode have moved: every TEMP cause and the rail contact stand as they were. -/
structure GroupsMove (s t : State) : Prop where
  temp : ∀ g : Fin 2, t.group[g].temp = s.group[g].temp
  contact : t.sts.contact = s.sts.contact
  hold : t.sts.hold = s.sts.hold
  railHistory : t.sts.railHistory = s.sts.railHistory

@[simp] theorem take_temp (r : GroupRec) (st : GState) : (r.take st).temp = r.temp := by cases st <;> rfl

section groups

variable {s t u : State} {g : Fin 2}

theorem GroupsMove.refl (s : State) : GroupsMove s s := ⟨fun _ => rfl, rfl, rfl, rfl⟩

theorem GroupsMove.ite {c : Prop} [Decidable c] (h : GroupsMove s t) (h' : GroupsMove s u) :
    GroupsMove s (if c then t else u) := by split <;> assumption

variable (h : GroupsMove s t)
include h

theorem GroupsMove.setGroupRec {r : GroupRec} (hr : r.temp = t.group[g].temp := by rfl) :
    GroupsMove s (t.setGroupRec g r) := by
  refine ⟨fun i => Eq.trans ?_ (h.temp i), h.contact, h.hold, h.railHistory⟩
  by_cases hi : i = g
  · rw [hi, State.setGroupRec_self, hr]
  · rw [State.setGroupRec_other _ _ _ _ (Ne.symm hi)]

theorem GroupsMove.moveGroup {st : GState} {w : GReason} {r : CapRef} : GroupsMove s (t.moveGroup g st w r) := by
  have hm : GroupsMove s (t.setGroupRec g (t.group[g].take st)) := h.setGroupRec (take_temp _ st)
  exact ⟨hm.temp, hm.contact, hm.hold, hm.railHistory⟩

theorem GroupsMove.startTest : GroupsMove s (t.startTest g) := .ite h.moveGroup h

theorem GroupsMove.groupOnMode {m : Mode} : GroupsMove s (t.groupOnMode m g) := by
  cases m with
  | start => exact h
  | normal | reduced => exact h.startTest
  | standby | safe => exact .ite h.moveGroup h

/-- The station mode and the count of available groups change, and what is logged of it. -/
theorem GroupsMove.changeMode {m : Mode} {w : ModeCause} : GroupsMove s (t.changeMode m w) := by
  have hm : GroupsMove s ((t.setSts { t.sts with mode := m }).logSts .stationMode (uword m.code)
      (uword (modeCauseCode w))) := ⟨h.temp, h.contact, h.hold, h.railHistory⟩
  exact hm.groupOnMode.groupOnMode

theorem GroupsMove.groupsChanged : GroupsMove s t.groupsChanged := by
  have ha : GroupsMove s (t.setSts { t.sts with available := t.availableGroups }) :=
    ⟨h.temp, h.contact, h.hold, h.railHistory⟩
  exact .ite h (.ite ha.changeMode ha)

theorem GroupsMove.lockGroup : GroupsMove s (t.lockGroup g) := h.setGroupRec.moveGroup.groupsChanged

theorem GroupsMove.restartTest : GroupsMove s (t.restartTest g) :=
  .ite (.ite h.setGroupRec.setGroupRec.moveGroup h.setGroupRec.lockGroup) h

theorem GroupsMove.groupCauseCleared : GroupsMove s (t.groupCauseCleared g) := h.startTest.restartTest

theorem GroupsMove.blockGroup {c : GCause} : GroupsMove s (t.blockGroup g c) := by
  obtain ⟨p, hp⟩ := trigger_spec srcGroupBlock t
  have ht : GroupsMove s (t.trigger srcGroupBlock).1 := by
    rw [hp]
    exact ⟨h.temp, h.contact, h.hold, h.railHistory⟩
  have hr : (t.trigger srcGroupBlock).1.group[g].temp = t.group[g].temp := by rw [hp]
  have hb : GroupsMove s ((t.trigger srcGroupBlock).1.setGroupRec g { t.group[g] with blockCause := some c }) :=
    ht.setGroupRec hr.symm
  exact .ite hb.moveGroup h

end groups

/-- The level of TEMP_TRIP_g becomes the TEMP cause of group g; what follows moves groups and modes. -/
theorem setTemp_groupsMove (g : Fin 2) (b : Bool) (s : State) :
    GroupsMove (s.setGroupRec g { s.group[g] with temp := b }) (s.setTemp g b) := by
  unfold State.setTemp
  split
  next h =>
    have hset : s.setGroupRec g { s.group[g] with temp := b } = s := by
      rw [← h]
      unfold State.setGroupRec
      have : s.group.set g s.group[g] = s.group := Vector.set_getElem_self _
      exact congrArg (fun v => { s with group := v }) this
    rw [hset]
    exact .refl s
  next =>
    cases b with
    | true => exact (GroupsMove.refl _).blockGroup
    | false => exact (GroupsMove.refl _).groupCauseCleared

theorem setTemp_temp (g h : Fin 2) (b : Bool) (s : State) :
    (s.setTemp g b).group[h].temp = if h = g then b else s.group[h].temp := by
  rw [(setTemp_groupsMove g b s).temp h]
  split
  next e => rw [e, State.setGroupRec_self]
  next e => rw [State.setGroupRec_other _ _ _ _ (Ne.symm e)]

-- ===================================================================== the terminal part of intertrip_in (R52)

/-- A trip of feeder k leaves the terminal part of every section. -/
theorem openBreaker_itTerminal (k h : Fin 6) (o : Origin) (e : Element) (b : Bool) (d : Dest) (lc : LockCause)
    (bc : BlockCause) (q : Word16) (s : State) :
    (s.openBreaker k o e b d lc bc q).sec[h].itTerminal = s.sec[h].itTerminal := by
  rw [openBreaker_trigger]
  dsimp only
  by_cases hk : h = k
  · rw [hk, set_same]
  · rw [set_other _ _ hk]

/-- The level of IT_IN_k becomes the terminal part of section k. -/
theorem setItTerminal_itTerminal (k h : Fin 6) (b : Bool) (s : State) :
    (s.setItTerminal k b).sec[h].itTerminal = if h = k then b else s.sec[h].itTerminal := by
  have hset : (s.setSec k { s.sec[k] with itTerminal := b }).sec[h].itTerminal =
      if h = k then b else s.sec[h].itTerminal := by
    split
    next e => rw [e, State.setSec_self]
    next e => rw [State.setSec_other _ _ _ _ (Ne.symm e)]
  refine Eq.trans ?_ hset
  unfold State.setItTerminal State.handIntertrip State.intertripReceived State.intertrip
  dsimp only
  split
  · split
    · exact openBreaker_itTerminal ..
    · rfl
  · rfl

-- ===================================================================== functions left and taken up (R167)

/-- A first level handed to the owner of a function: the TEMP causes, the terminal parts and the rail contact after it. -/
theorem handFirst_owners (fn : TermFn) (b : Bool) (s : State) :
    (∀ g : Fin 2, (s.handFirst fn b).group[g].temp = if fn = .tempTrip g then b else s.group[g].temp) ∧
    (∀ k : Fin 6, (s.handFirst fn b).sec[k].itTerminal = if fn = .itIn k then b else s.sec[k].itTerminal) ∧
    (s.handFirst fn b).sts.contact = s.sts.contact ∧ (s.handFirst fn b).sts.hold = s.sts.hold ∧
    (s.handFirst fn b).sts.railHistory = s.sts.railHistory := by
  cases fn with
  | tempTrip i =>
    have hm := setTemp_groupsMove i b s
    have hsec : (s.setTemp i b).sec = s.sec := (StationActs.refl s).setTemp.sec
    refine ⟨fun g => ?_, fun k => ?_, hm.contact, hm.hold, hm.railHistory⟩
    · simp only [State.handFirst, setTemp_temp, TermFn.tempTrip.injEq, eq_comm]
    · simp [State.handFirst, hsec]
  | itIn i =>
    have hf : FeederActs s (s.setItTerminal i b) := (FeederActs.refl s).setItTerminal
    refine ⟨fun g => ?_, fun k => ?_, congrArg Sts.contact hf.sts, congrArg Sts.hold hf.sts,
      congrArg Sts.railHistory hf.sts⟩
    · simp [State.handFirst, hf.group]
    · simp only [State.handFirst, setItTerminal_itTerminal, TermFn.itIn.injEq, eq_comm]
  | none | localReset _ | rplOut | rplFb | itOut _ | alarmOut => simp [State.handFirst]

/-- A function left: its TEMP cause or terminal part is clear, and the rail contact is released where it was RPL_OUT. -/
theorem leaveFunction_owners (fn : TermFn) (s : State) :
    (∀ g, fn = .tempTrip g → (s.leaveFunction fn).group[g].temp = false) ∧
    (∀ k, fn = .itIn k → (s.leaveFunction fn).sec[k].itTerminal = false) ∧
    (fn = .rplOut → (s.leaveFunction fn).sts.contact = .released ∧ (s.leaveFunction fn).sts.hold = none ∧
      (s.leaveFunction fn).sts.railHistory = []) := by
  refine ⟨?_, ?_, ?_⟩
  · rintro g rfl
    exact (setTemp_temp g g false s).trans (if_pos rfl)
  · rintro k rfl
    rw [State.leaveFunction, State.setSec_self]
  · rintro rfl
    exact ⟨rfl, rfl, rfl⟩

-- ===================================================================== the terminal's record (R167)

theorem apply_input (c : TermCfg) (raw : Bool) (r : Terminal) (h : c.mode.isInput = true) :
    r.apply c raw = { cfg := c, raw := raw, proc := c.mode.sampled raw, count := 0, change := false, out := false } :=
  if_pos h

/-- What every record applied has. -/
theorem apply_fresh (r : Terminal) (c : TermCfg) (raw : Bool) :
    (r.apply c raw).cfg = c ∧ (r.apply c raw).change = false ∧ (r.apply c raw).count = 0 := by
  unfold Terminal.apply
  split <;> exact ⟨rfl, rfl, rfl⟩

/-- A terminal that Set Output can drive: an output without a function (R165). -/
def freeOutput (c : TermCfg) : Prop := (c.mode = .outOpenDrain ∨ c.mode = .outPushPull) ∧ c.fn = .none

theorem freeOutput_iff (c : TermCfg) : freeOutput c ↔ (c.mode.isOutput && c.fn == .none) = true := by
  rw [freeOutput, Bool.and_eq_true, beq_iff_eq]
  cases c.mode <;> simp [TermMode.isOutput]

/-- The level set stays with a free output that remains one, and is lost otherwise. -/
theorem apply_out (r : Terminal) (c : TermCfg) (raw : Bool) :
    (freeOutput r.cfg → freeOutput c → (r.apply c raw).out = r.out) ∧
    (¬ freeOutput r.cfg ∨ ¬ freeOutput c → (r.apply c raw).out = false) := by
  have hout : (r.apply c raw).out =
      ((c.mode.isOutput && c.fn == .none) && ((r.cfg.mode.isOutput && r.cfg.fn == .none) && r.out)) := by
    unfold Terminal.apply
    split
    next h => cases hm : c.mode <;> simp_all [TermMode.isInput, TermMode.isOutput]
    next => simp only [Bool.and_assoc]
  rw [hout, freeOutput_iff, freeOutput_iff]
  refine ⟨fun hr hc => by rw [hr, hc]; rfl, ?_⟩
  rintro (h | h)
  · rw [Bool.eq_false_iff.2 h, Bool.false_and, Bool.and_false]
  · rw [Bool.eq_false_iff.2 h, Bool.false_and]

-- ===================================================================== a record applied (R167)

/-- The state after the function of terminal i was left, where the new record names another. -/
def functionLeft (i : Fin 16) (c : TermCfg) (s : State) : State :=
  if s.term[i].cfg.fn = c.fn then s else s.leaveFunction s.term[i].cfg.fn

theorem functionLeft_reacts (i : Fin 16) (c : TermCfg) (s : State) : Reacts s (functionLeft i c s) :=
  .ite (.refl s) (Reacts.refl s).leaveFunction

theorem applyTerminal_eq (i : Fin 16) (c : TermCfg) (s : State) :
    s.applyTerminal i c =
      if c.mode.isInput = true then
        ((functionLeft i c s).setTerm i (s.term[i].apply c (s.lines.getLsbD i.val))).handFirst c.fn
          (c.mode.sampled (s.lines.getLsbD i.val))
      else (functionLeft i c s).setTerm i (s.term[i].apply c (s.lines.getLsbD i.val)) := by
  have hr := functionLeft_reacts i c s
  have hrec : (functionLeft i c s).term[i].apply c ((functionLeft i c s).lines.getLsbD i.val) =
      s.term[i].apply c (s.lines.getLsbD i.val) := by rw [hr.term, hr.lines]
  rw [← hrec]
  unfold State.applyTerminal
  refine ite_congr rfl (fun hin => ?_) fun _ => rfl
  have hproc : ((functionLeft i c s).setTerm i ((functionLeft i c s).term[i].apply c
      ((functionLeft i c s).lines.getLsbD i.val))).term[i].proc = c.mode.sampled (s.lines.getLsbD i.val) := by
    rw [State.setTerm_self, hrec, apply_input c _ _ hin]
  exact congrArg (fun b => ((functionLeft i c s).setTerm i ((functionLeft i c s).term[i].apply c
    ((functionLeft i c s).lines.getLsbD i.val))).handFirst c.fn b) hproc

/-- Terminal i has its record, and the owners have reacted. -/
theorem applyTerminal_reacts (i : Fin 16) (c : TermCfg) (s : State) :
    Reacts { s with term := s.term.set i (s.term[i].apply c (s.lines.getLsbD i.val)) } (s.applyTerminal i c) := by
  have hr := functionLeft_reacts i c s
  have hset : (functionLeft i c s).setTerm i (s.term[i].apply c (s.lines.getLsbD i.val)) =
      { functionLeft i c s with term := s.term.set i (s.term[i].apply c (s.lines.getLsbD i.val)) } := by
    rw [State.setTerm, hr.term]
  have hw := hr.withTerm (s.term.set i (s.term[i].apply c (s.lines.getLsbD i.val)))
  rw [applyTerminal_eq, hset]
  exact .ite hw.handFirst hw

/-- The owners of the functions after a record is applied: the one taken up has the first level, the one left is clear. -/
theorem applyTerminal_owners (i : Fin 16) (c : TermCfg) (s : State) :
    (c.mode.isInput = true →
      (∀ g, c.fn = .tempTrip g → (s.applyTerminal i c).group[g].temp = c.mode.sampled (s.lines.getLsbD i.val)) ∧
      (∀ k, c.fn = .itIn k → (s.applyTerminal i c).sec[k].itTerminal = c.mode.sampled (s.lines.getLsbD i.val))) ∧
    (∀ g, s.term[i].cfg.fn = .tempTrip g → c.fn ≠ .tempTrip g → (s.applyTerminal i c).group[g].temp = false) ∧
    (∀ k, s.term[i].cfg.fn = .itIn k → c.fn ≠ .itIn k → (s.applyTerminal i c).sec[k].itTerminal = false) ∧
    (s.term[i].cfg.fn = .rplOut → c.fn ≠ .rplOut → (s.applyTerminal i c).sts.contact = .released ∧
      (s.applyTerminal i c).sts.hold = none ∧ (s.applyTerminal i c).sts.railHistory = []) := by
  obtain ⟨htemp, hit, hrail⟩ := leaveFunction_owners s.term[i].cfg.fn s
  have hleft (hne : s.term[i].cfg.fn ≠ c.fn) : functionLeft i c s = s.leaveFunction s.term[i].cfg.fn := if_neg hne
  obtain ⟨htemp', hit', hcontact, hhold, hhist⟩ := handFirst_owners c.fn (c.mode.sampled (s.lines.getLsbD i.val))
    ((functionLeft i c s).setTerm i (s.term[i].apply c (s.lines.getLsbD i.val)))
  rw [applyTerminal_eq]
  refine ⟨fun hin => ?first, fun g hold hnew => ?temp, fun k hold hnew => ?it, fun hold hnew => ?rail⟩
  case first =>
    rw [if_pos hin]
    exact ⟨fun g hg => (htemp' g).trans (if_pos hg), fun k hk => (hit' k).trans (if_pos hk)⟩
  case temp =>
    have hl := htemp g hold
    rw [← hleft (hold ▸ hnew.symm)] at hl
    split
    · exact (htemp' g).trans ((if_neg hnew).trans hl)
    · exact hl
  case it =>
    have hl := hit k hold
    rw [← hleft (hold ▸ hnew.symm)] at hl
    split
    · exact (hit' k).trans ((if_neg hnew).trans hl)
    · exact hl
  case rail =>
    have hl := hrail hold
    rw [← hleft (hold ▸ hnew.symm)] at hl
    obtain ⟨hc, hh, hi⟩ := hl
    split
    · exact ⟨hcontact.trans hc, hhold.trans hh, hhist.trans hi⟩
    · exact ⟨hc, hh, hi⟩

end Sys2Proof.Proofs
end

section
/-! Write Setting taken: the write restrictions (R42, R166), the live record replaced and handed to its owner, and the
reply (R206). -/
namespace Sys2Proof.Proofs

open Sys2Proof Sys2Proof.Machine Sys2Proof.Laws

-- ===================================================================== write restrictions (R42, R166)

theorem writable_iff (st : FState) : st.writable = true ↔ st = .open ∨ st = .blocked ∨ st = .lockedOut := by
  cases st <;> simp [FState.writable]

/-- A record is free where every feeder that refers to it is OPEN, BLOCKED or LOCKED_OUT, and a TERMINAL record in
STANDBY. -/
theorem writeRestriction_free {s : State} {id : RecId}
    (hf : ∀ k : Fin 6, s.refers id k = true → s.feeder[k].state.writable = true)
    (ht : id.isTerminal = true → s.sts.mode = .standby) : s.writeRestriction id = none := by
  have hb : s.writeBlocker id = none := List.find?_eq_none.2 fun k _ hk => by
    obtain ⟨href, hstate⟩ := Bool.and_eq_true_iff.1 hk
    rw [hf k href] at hstate
    cases hstate
  unfold State.writeRestriction
  rw [hb]
  refine if_neg fun hm => ?_
  obtain ⟨hterm, hmode⟩ := Bool.and_eq_true_iff.1 hm
  rw [ht hterm] at hmode
  cases hmode

/-- A record of a kind that no feeder refers to, and that is no TERMINAL record, is free always. -/
theorem writeRestriction_unrestricted {s : State} {id : RecId} (hf : ∀ k : Fin 6, s.refers id k = false)
    (ht : id.isTerminal = false) : s.writeRestriction id = none :=
  writeRestriction_free (fun k h => absurd h (Bool.eq_false_iff.1 (hf k))) fun h => absurd h (Bool.eq_false_iff.1 ht)

/-- A SECTION record is refused for its feeder. -/
theorem writeRestriction_section {s : State} {k : Fin 6} (h : s.feeder[k].state.writable = false) :
    s.writeRestriction (.sectionRec k) = some (.feederNamed k s.feeder[k].state) := by
  have hb : s.writeBlocker (.sectionRec k) = some k := by
    unfold State.writeBlocker
    cases hfind : feeders6.find? fun o => s.refers (.sectionRec k) o && !s.feeder[o].state.writable with
    | none =>
      have hk := List.find?_eq_none.1 hfind k (mem_feeders6 k)
      simp only [State.refers, beq_self_eq_true, h, Bool.not_false, Bool.and_self, not_true_eq_false] at hk
    | some o =>
      have ho := List.find?_some hfind
      exact congrArg some (beq_iff_eq.1 (Bool.and_eq_true_iff.1 ho).1).symm
  unfold State.writeRestriction
  rw [hb]

/-- A TERMINAL record is refused for the mode. -/
theorem writeRestriction_terminal {s : State} {i : Fin 16} (h : s.sts.mode ≠ .standby) :
    s.writeRestriction (.terminal i) = some (.mode s.sts.mode) := by
  have hb : s.writeBlocker (.terminal i) = none := List.find?_eq_none.2 fun _ _ hk => by cases hk
  unfold State.writeRestriction
  rw [hb]
  exact if_pos (Bool.and_eq_true_iff.2 ⟨rfl, bne_iff_ne.2 h⟩)

-- ===================================================================== the record handed on (R206)

/-- No owner of a record touches the settings store. -/
theorem handRecord_sst (old : Settings) (id : RecId) (s : State) : (s.handRecord old id).sst = s.sst := by
  cases id with
  | station => exact (StationActs.refl s).stationReplaced.reacts.sst
  | sectionRec k => exact (FeederActs.refl s).sectionReplaced.reacts.sst
  | partner j =>
    have hentry : (entryReplaced j old.partners[j] s).sst = s.sst := State.setPort_sst ..
    have hclear : FeederActs (entryReplaced j old.partners[j] s) ((entryReplaced j old.partners[j] s).clearSections j) :=
      (FeederActs.refl _).clearSections
    rw [State.handRecord, partnerReplaced_eq]
    split
    · exact hclear.handLinkLost.reacts.sst.trans hentry
    · exact hclear.reacts.sst.trans hentry
  | terminal i => exact (applyTerminal_reacts i _ s).sst
  | general _ | groupA _ | groupB _ | capture => rfl

/-- The bytes in which a record written is returned: those of the record that its bytes spell. -/
def returnedBytes (record : List Byte) : RecId → List Byte
  | .station => encodeStation (parseStation record)
  | .general _ => encodeGeneral (parseGeneral record)
  | .groupA _ => encodeGroup (parseGroup record)
  | .groupB _ => encodeGroup (parseGroup record)
  | .sectionRec _ => encodeSection (parseSection record)
  | .partner _ => encodePartner (parsePartner record)
  | .terminal _ => encodeTerminal (parseTerminal record)
  | .capture => encodeCapture (parseCapture record)

theorem encode_put (c : Settings) (record : List Byte) (id : RecId) :
    (c.put record id).encode id = returnedBytes record id := by
  cases id with
  | station | capture => rfl
  | general _ => exact congrArg encodeGeneral (set_same ..)
  | groupA _ | groupB _ => exact congrArg encodeGroup (set_same ..)
  | sectionRec _ => exact congrArg encodeSection (set_same ..)
  | partner _ => exact congrArg encodePartner (set_same ..)
  | terminal _ => exact congrArg encodeTerminal (set_same ..)

/-- A record that passes its tests and is free replaces the live record, is handed to its owner, and is in the reply. -/
theorem writeSetting_taken (id : RecId) (tag : Byte) {record : List Byte} {s : State} (hr : s.ready)
    (ha : s.sst.activity = .idle) (hl : record.length = id.length) (hb : s.cfg.badOffset record id = none)
    (hw : s.writeRestriction id = none) :
    Answers (.writeSetting tag ((recCode id).1 :: (recCode id).2 :: record)) s 0x51 tag
      ((recordLive id record s).handRecord s.cfg id) .ok
      (.setting (recCode id).1 (recCode id).2 (returnedBytes record id)) := by
  refine writeSetting_answers id tag hr hl ((if_neg (not_not.2 ha)).trans ?_)
  have hb' : s.heard.cfg.badOffset record id = none := hb
  have hw' : s.heard.writeRestriction id = none := hw
  have hcfg : ((recordLive id record s).handRecord s.cfg id).cfg = s.cfg.put record id :=
    congrArg Sst.live (handRecord_sst s.cfg id _)
  rw [hb', hw', ← encode_put s.cfg record id, ← hcfg]
  rfl

-- ===================================================================== group A records (R18, R19)

/-- A group record is read back from the set it was put into. -/
theorem put_groupA (c : Settings) (k : Fin 6) {g : GroupCfg} (h : GroupFits g) :
    c.put (encodeGroup g) (.groupA k) = { c with groupA := c.groupA.set k g } := by
  rw [Settings.put, parseGroup_encodeGroup h]

theorem encodeGroup_length (g : GroupCfg) : (encodeGroup g).length = 13 := by
  rw [encodeGroup_eq]
  rfl

/-- A group A record in its ranges, with DIDT_HOLD not above DIDT_START, replaces the live one whole. -/
theorem writeSetting_groupA (k : Fin 6) (tag : Byte) {g : GroupCfg} {s : State} (hr : s.ready)
    (ha : s.sst.activity = .idle) (hf : GroupFits g) (hg : GroupRanges g) (hh : g.didtHold ≤ g.didtStart) :
    Answers (.writeSetting tag (3 :: BitVec.ofNat 8 (k.val + 1) :: encodeGroup g)) s 0x51 tag
      { s.heard with
        sst := { s.sst with
          live := { s.cfg with groupA := s.cfg.groupA.set k g }, confirm := s.sst.confirm || s.sst.lost } }
      .ok (.setting 3 (BitVec.ofNat 8 (k.val + 1)) (encodeGroup g)) := by
  have hw := writeSetting_taken (.groupA k) tag hr ha (encodeGroup_length g)
    ((firstBad_groupTests hf hg).trans (if_pos hh))
    (writeRestriction_unrestricted (fun _ => rfl) rfl)
  rw [recordLive, put_groupA _ _ hf, returnedBytes, parseGroup_encodeGroup hf] at hw
  exact hw

/-- A group A record that stands is read byte for byte. -/
theorem readSetting_groupA (k : Fin 6) (tag : Byte) {s : State} (hr : s.ready) :
    Answers (.readSetting tag [3, BitVec.ofNat 8 (k.val + 1)]) s 0x50 tag s.heard .ok
      (.setting 3 (BitVec.ofNat 8 (k.val + 1)) (encodeGroup s.cfg.groupA[k])) :=
  readSetting_answers (.groupA k) tag hr

/-- A setting request whose kind names no record, and one whose index names none, is BAD_ARGUMENT. -/
theorem readSetting_badKind (tag bad idx : Byte) {s : State} (hr : s.ready) (hbad : bad.toNat = 0 ∨ 8 < bad.toNat) :
    Answers (.readSetting tag [bad, idx]) s 0x50 tag s.heard .badArgument (.offset 0) := by
  refine answers_of_ready hr rfl (payloadFits_of_length 2 rfl) ?_
  unfold State.answerReadSetting State.withRecord
  dsimp only
  rw [recordLength_outside hbad]
  rfl

theorem writeSetting_badIndex (tag bad : Byte) {record : List Byte} {s : State} (hr : s.ready)
    (hl : record.length = 13) (hbad : bad.toNat = 0 ∨ 6 < bad.toNat) :
    Answers (.writeSetting tag (3 :: bad :: record)) s 0x51 tag s.heard .badArgument (.offset 1) := by
  refine answers_of_ready hr rfl (payloadFits_of_length 15 (by simp [hl])) ?_
  have hlen : writeLengthOk (3 :: bad :: record) = true :=
    writeLengthOk_recCode (.groupA 0) (bad :: record) (by simp [hl, RecId.length])
  rw [State.answerWriteSetting, if_pos hlen]
  have hid : RecId.ofCodes (3 : Byte).toNat bad.toNat = none := ofCodes_groupA_outside hbad
  unfold State.withRecord
  rw [hid]
  rfl

end Sys2Proof.Proofs
end

section
/-! The statement on Read Setting and Write Setting, put together from the settings store's judgement and the owners. -/
namespace Sys2Proof.Proofs

open Sys2Proof Sys2Proof.Machine Sys2Proof.Laws

/-- Settles O60: each record kind through the one rule of a Write Setting taken, busy, bad or refused, then its owner. -/
theorem settingsReadAndWritten : Obligations.SettingsReadAndWritten := by
  refine ⟨?groupA, fun record tag s hr ha hl h1 h8 hbad => ?channels, fun k i record tag s hr ha => ⟨?fed, ?mode⟩,
    fun record tag s hr ha => ⟨fun hl hb => ?station, fun k hl hb => ?general, fun k hl hb => ?groupB,
      fun k hl hb hw => ?sectionRec, fun j hl hb hw => ?partner, fun i hl hb hm => ?terminal, fun hl hb => ?capture⟩⟩
  case groupA =>
    intro k g tag bad s hr himaxLo himaxHi himaxStep hsetLo hsetHi hsetStep htimeLo htimeHi hstartLo hstartHi hholdLo
      hholdHi hidtLo hidtHi hidtStep hbelow htdtLo htdtHi
    have hfits : GroupFits g := by constructor <;> omega
    have hranges : GroupRanges g :=
      ⟨onStep_of himaxLo himaxHi himaxStep, onStep_of hsetLo hsetHi hsetStep, inRange_of htimeLo htimeHi,
        inRange_of hstartLo hstartHi, hholdLo, onStep_of hidtLo hidtHi hidtStep, inRange_of htdtLo htdtHi, hbelow⟩
    have htest : s.cfg.badOffset (encodeGroup g) (.groupA k) = if g.didtHold ≤ g.didtStart then none else some 7 :=
      firstBad_groupTests hfits hranges
    have hl : (encodeGroup g).length = (RecId.groupA k).length := encodeGroup_length g
    exact ⟨fun ha => writeSetting_busy (.groupA k) tag hr hl ha,
      fun ha hh => writeSetting_bad (.groupA k) tag hr hl ha (htest.trans (if_neg (Nat.not_le.2 hh))),
      fun ha hh => writeSetting_groupA k tag hr ha hfits hranges hh,
      fun hg => ⟨hg ▸ readSetting_groupA k tag hr, parseGroup_encodeGroup hfits⟩,
      fun hb => readSetting_badKind tag bad _ hr hb,
      fun hb => writeSetting_badIndex tag bad hr (encodeGroup_length g) hb⟩
  case channels => exact writeSetting_bad .capture tag hr hl ha (firstBad_captureTests hl h1 h8 hbad)
  case fed =>
    intro hl hb ho hbl hlo
    refine writeSetting_refused (.sectionRec k) tag hr hl ha hb (writeRestriction_section (Bool.eq_false_iff.2 fun h => ?_))
    obtain h | h | h := (writable_iff _).1 h
    · exact ho h
    · exact hbl h
    · exact hlo h
  case mode =>
    exact fun hl hb hm => writeSetting_refused (.terminal i) tag hr hl ha hb (writeRestriction_terminal hm)
  case station =>
    have hw := writeSetting_taken .station tag hr ha hl hb
      (writeRestriction_unrestricted (fun _ => rfl) rfl)
    obtain ⟨v, hv, ht⟩ := stationReplaced_spec (recordLive .station record s)
    refine ⟨_, hw, ?_⟩
    rw [State.handRecord, ht]
    exact ⟨hv, rfl⟩
  case general =>
    exact writeSetting_taken (.general k) tag hr ha hl hb
      (writeRestriction_unrestricted (fun _ => rfl) rfl)
  case groupB =>
    exact writeSetting_taken (.groupB k) tag hr ha hl hb
      (writeRestriction_unrestricted (fun _ => rfl) rfl)
  case sectionRec =>
    have hstate : s.feeder[k].state.writable = true := (writable_iff _).2 hw
    have ht := writeSetting_taken (.sectionRec k) tag hr ha hl hb
      (writeRestriction_free (fun o h => by rw [← beq_iff_eq.1 h]; exact hstate) fun h => by cases h)
    rw [State.handRecord, sectionReplaced_writable k (recordLive (.sectionRec k) record s) hstate] at ht
    exact ht
  case partner =>
    have hfree : ∀ k : Fin 6, s.names k j = true → s.feeder[k].state.writable = true := fun k hk =>
      (writable_iff _).2 (hw k (beq_iff_eq.1 hk))
    have ht := writeSetting_taken (.partner j) tag hr ha hl hb (writeRestriction_free hfree fun h => by cases h)
    obtain ⟨v, e, hgrow, hrep, hv⟩ := partnerReplaced_writable j s.cfg.partners[j] (recordLive (.partner j) record s)
      hfree
    refine ⟨_, ht, ?_⟩
    obtain ⟨hlink, hport, hother, hframe⟩ := entryReplaced_spec j s.cfg.partners[j] (recordLive (.partner j) record s)
    have hsec (k : Fin 6) : v[k] = if s.cfg.sections[k].partner = some j then clearedSection s.sec[k] else s.sec[k] :=
      (hv k).trans (if_congr beq_iff_eq rfl rfl)
    rw [State.handRecord, hrep]
    refine ⟨hlink, (port_of_sections ..).trans hport, (port_of_sections ..).trans hother, hsec, hgrow, ?_⟩
    rw [hframe]
    rfl
  case terminal =>
    have ht := writeSetting_taken (.terminal i) tag hr ha hl hb (writeRestriction_free (fun _ h => by cases h) fun _ => hm)
    have hcfg : (recordLive (.terminal i) record s).cfg.terminals[i] = parseTerminal record := set_same ..
    rw [State.handRecord, hcfg] at ht
    have hreacts := applyTerminal_reacts i (parseTerminal record) (recordLive (.terminal i) record s)
    obtain ⟨hfirst, htemp, hit, hrail⟩ :=
      applyTerminal_owners i (parseTerminal record) (recordLive (.terminal i) record s)
    obtain ⟨hcfg', hchange, hcount⟩ := apply_fresh s.term[i] (parseTerminal record) (s.lines.getLsbD i.val)
    obtain ⟨hkept, hlost⟩ := apply_out s.term[i] (parseTerminal record) (s.lines.getLsbD i.val)
    have hself : ((recordLive (.terminal i) record s).applyTerminal i (parseTerminal record)).term[i] =
        s.term[i].apply (parseTerminal record) (s.lines.getLsbD i.val) := by
      rw [hreacts.term]
      exact set_same ..
    refine ⟨_, ht, hreacts.sst, fun h hh => ?_, ?_⟩
    · rw [hreacts.term]
      exact set_other _ _ hh
    · rw [hself]
      exact ⟨hcfg', hchange, hcount, fun hin => ⟨by rw [apply_input _ _ _ hin], by rw [apply_input _ _ _ hin],
        hfirst hin⟩, hkept, hlost, htemp, hit, hrail, hreacts.aqu, hreacts.sync, hreacts.link, hreacts.upPort,
        hreacts.dnPort, hreacts.bfb, hreacts.lines, hreacts.uset, hreacts.energy, hreacts.avg, hreacts.grow⟩
  case capture =>
    exact ⟨writeSetting_taken .capture tag hr ha hl hb
      (writeRestriction_unrestricted (fun _ => rfl) rfl), rfl⟩

end Sys2Proof.Proofs
end

section
/-! What the operations of one feeder sequence are made of (chapter 4). FeederRun: a state is reached from another by
primitive actions of feeder k alone: moves, updates of its record in the state it stands in, updates of its
discriminator, changes of intertrip_out, events and capture triggers. Every operation of the sequence is such a run, said
once per operation in the order of the model's file; what a run leaves alone is then one induction. -/
namespace Sys2Proof.Proofs

open Sys2Proof Sys2Proof.Machine Sys2Proof.Laws

/-- t is reached from s by primitive actions of feeder sequence k. -/
inductive FeederRun (k : Fin 6) (s : State) : State → Prop where
  | refl : FeederRun k s s
  | moveFeeder {t : State} {f : Feeder} {st : FState} {n : Option Nat} (h : FeederRun k s t) :
      FeederRun k s (t.moveFeeder k f st n)
  | setFeeder {t : State} {f : Feeder} (h : FeederRun k s t) (hf : f.state = t.feeder[k].state := by rfl) :
      FeederRun k s (t.setFeeder k f)
  | setDisc {t : State} {d : Disc} (h : FeederRun k s t) : FeederRun k s (t.setDisc k d)
  | itOut {t : State} {b : Bool} (h : FeederRun k s t) : FeederRun k s (t.setSec k { t.sec[k] with itOut := b })
  | log {t : State} {b : Block} {n : Nat} {e : EventKind} {v1 v2 : Word16} {r : CapRef} (h : FeederRun k s t) :
      FeederRun k s (t.log b n e v1 v2 r)
  | trigger {t : State} {n : Nat} (h : FeederRun k s t) : FeederRun k s (t.trigger n).1

section runs

variable {k : Fin 6} {s t u : State}

theorem FeederRun.trans (h : FeederRun k s t) (h' : FeederRun k t u) : FeederRun k s u := by
  induction h' with
  | refl => exact h
  | moveFeeder _ ih => exact ih.moveFeeder
  | setFeeder _ hf ih => exact ih.setFeeder hf
  | setDisc _ ih => exact ih.setDisc
  | itOut _ ih => exact ih.itOut
  | log _ ih => exact ih.log
  | trigger _ ih => exact ih.trigger

theorem FeederRun.ite {c : Prop} [Decidable c] (h : FeederRun k s t) (h' : FeederRun k s u) :
    FeederRun k s (if c then t else u) := by split <;> assumption

variable (h : FeederRun k s t)
include h

-- ===================================================================== moves

theorem FeederRun.logFeeder {e : EventKind} {v1 v2 : Word16} : FeederRun k s (t.logFeeder k e v1 v2) := h.log
theorem FeederRun.setItOut {c : Nat} : FeederRun k s (t.setItOut k c) := .ite h h.itOut.log
theorem FeederRun.clearItOut : FeederRun k s (t.clearItOut k) := h.itOut

theorem FeederRun.openBreaker {o : Origin} {e : Element} {b : Bool} {d : Dest} {lc : LockCause} {bc : BlockCause}
    {q : Word16} : FeederRun k s (t.openBreaker k o e b d lc bc q) := h.moveFeeder.trigger.log

theorem FeederRun.lockOut {c : LockCause} : FeederRun k s (t.lockOut k c) := h.moveFeeder.logFeeder
theorem FeederRun.enterOpen : FeederRun k s (t.enterOpen k) := h.moveFeeder
theorem FeederRun.enterBlocked {c : BlockCause} : FeederRun k s (t.enterBlocked k c) := h.moveFeeder
theorem FeederRun.enterClosing {p : ClosePath} : FeederRun k s (t.enterClosing k p) := h.moveFeeder
theorem FeederRun.enterClosed : FeederRun k s (t.enterClosed k) := h.moveFeeder.clearItOut
theorem FeederRun.closeDone : FeederRun k s (t.closeDone k) := (FeederRun.ite h.setFeeder h).enterClosed.logFeeder
theorem FeederRun.logLocalClose {f : Feeder} : FeederRun k s (t.logLocalClose k f) := h.logFeeder
theorem FeederRun.adoptLocal : FeederRun k s (t.adoptLocal k) := h.enterClosed.logLocalClose

-- ===================================================================== autoreclose and line test (R70, R75..R79)

theorem FeederRun.decide {b : Bool} : FeederRun k s (t.decide k b) :=
  .ite h.lockOut (.ite h.moveFeeder.logFeeder h.lockOut)

theorem FeederRun.testResult {o : TestOutcome} {n : Nat} {v : Option TestValues} :
    FeederRun k s (t.testResult k o n v) := by
  refine (h.setFeeder ?_).logFeeder
  unfold Feeder.release
  split <;> rfl

theorem FeederRun.cancelTest : FeederRun k s (t.cancelTest k) := .ite h.testResult h

theorem FeederRun.testInvalid {n : Nat} {v : Option TestValues} : FeederRun k s (t.testInvalid k n v) :=
  .ite (.ite h.testResult.setFeeder.adoptLocal h.testResult.setFeeder.enterOpen)
    (.ite h.testResult.setFeeder.adoptLocal
      (.ite h.testResult.setFeeder.moveFeeder h.testResult.setFeeder.lockOut))

theorem FeederRun.beginTest {b : Bool} : FeederRun k s (t.beginTest k b) := .ite h.moveFeeder.testInvalid h.moveFeeder
theorem FeederRun.enterWait : FeederRun k s (t.enterWait k) := .ite h.moveFeeder.beginTest h.moveFeeder
theorem FeederRun.abandonTest : FeederRun k s (t.abandonTest k) := .ite h.testResult.enterWait h
theorem FeederRun.enterLineTest {b : Bool} : FeederRun k s (t.enterLineTest k b) := h.beginTest.abandonTest

theorem FeederRun.testWindowDone : FeederRun k s (t.testWindowDone k) :=
  .ite h.testInvalid
    (.ite h.testResult.setFeeder.enterClosing
      (.ite h.testResult.setFeeder.enterOpen h.testResult.setFeeder.decide))

theorem FeederRun.testWindowTaken : FeederRun k s (t.testWindowTaken k) := .ite h.testWindowDone h

-- ===================================================================== openings and trips (R64..R69)

theorem FeederRun.openingDone {n : Nat} : FeederRun k s (t.openingDone k n) := by
  unfold State.openingDone
  dsimp only
  split
  · exact h.logFeeder.decide
  · exact h.logFeeder.enterWait
  · exact h.logFeeder.enterBlocked
  · exact h.logFeeder.lockOut
  · exact h.logFeeder.enterOpen
  · exact h.logFeeder.enterOpen

theorem FeederRun.breakerFailed : FeederRun k s (t.breakerFailed k) := h.logFeeder.lockOut

theorem FeederRun.ownTrip {p : Trip} : FeederRun k s (t.ownTrip k p) :=
  .ite (.ite h.setItOut.openBreaker h.setItOut.openBreaker) h

theorem FeederRun.externalTrip : FeederRun k s (t.externalTrip k) := h.openBreaker.setItOut
theorem FeederRun.intertrip : FeederRun k s (t.intertrip k) := .ite h.openBreaker h
theorem FeederRun.intertripReceived {n : Nat} : FeederRun k s (t.intertripReceived k n) := h.log.intertrip
theorem FeederRun.handIntertrip {b : Bool} {n : Nat} : FeederRun k s (t.handIntertrip k b n) :=
  .ite h.intertripReceived h

-- ===================================================================== breaker feedback (R61, R64, R66, R67)

theorem FeederRun.safeClose : FeederRun k s (t.safeClose k) := .ite h.logLocalClose.openBreaker h.logLocalClose.openBreaker
theorem FeederRun.blockedClose : FeederRun k s (t.blockedClose k) := h.logLocalClose.openBreaker

theorem FeederRun.bfbAsserts : FeederRun k s (t.bfbAsserts k) := by
  refine .ite h ?_
  split
  case h_1 => exact h.closeDone
  case h_2 | h_3 => exact h
  case h_4 | h_5 => exact .ite h.safeClose h.adoptLocal
  case h_6 => exact .ite h.safeClose h.blockedClose
  case h_7 | h_8 => exact h.adoptLocal
  case h_9 => exact h.testInvalid

theorem FeederRun.bfbReleases : FeederRun k s (t.bfbReleases k) := by
  refine .ite h ?_
  split
  case h_1 => exact h.externalTrip
  case h_2 => exact h.openingDone
  case h_3 => exact .ite h.logFeeder h
  all_goals exact h

-- ===================================================================== channel failures, station changes (R82, R83, R89)

theorem FeederRun.keep {x : Kept} : FeederRun k s (t.keep k x) := h.setFeeder

theorem FeederRun.currentLost : FeederRun k s (t.currentLost k) := by
  unfold State.currentLost
  split
  case h_1 | h_2 => exact h.openBreaker
  case h_3 => exact h.setFeeder
  case h_8 => exact h.cancelTest.lockOut
  case h_9 => exact .ite h h.setFeeder
  all_goals exact h.lockOut

theorem FeederRun.currentFailed : FeederRun k s (t.currentFailed k) := .ite h.currentLost h.keep
theorem FeederRun.voltageLost : FeederRun k s (t.voltageLost k) := .ite h.setFeeder.testInvalid h.setFeeder
theorem FeederRun.voltageFailed : FeederRun k s (t.voltageFailed k) := .ite h.voltageLost h.keep

theorem FeederRun.stationTripped : FeederRun k s (t.stationTripped k) := by
  unfold State.stationTripped
  split
  case h_1 | h_2 => exact h.openBreaker
  case h_3 => exact .ite h h.setFeeder
  case h_4 | h_5 | h_6 => exact h.enterBlocked
  case h_7 => exact h.cancelTest.enterBlocked
  all_goals exact h

theorem FeederRun.stationTrip : FeederRun k s (t.stationTrip k) := .ite h.stationTripped h.keep
theorem FeederRun.safeExit : FeederRun k s (t.safeExit k) := .ite h.enterOpen (.ite h.setFeeder h)

theorem FeederRun.actKept {l : List Kept} : FeederRun k s (t.actKept k l) := by
  induction l generalizing t with
  | nil => exact h
  | cons x rest ih =>
    cases x with
    | currentFailed => exact ih h.currentLost
    | voltageFailed => exact ih h.voltageLost
    | stationTrip => exact ih h.stationTripped

/-- The adoption at the end of START (R89). -/
theorem FeederRun.adopt : FeederRun k s (t.adopt k) :=
  have hk := (FeederRun.ite (c := (t.setFeeder k { t.feeder[k] with kept := [] }).bfbClosed k = true)
    h.setFeeder.enterClosed h.setFeeder.enterOpen).actKept (l := t.feeder[k].kept)
  .ite hk.setItOut hk

-- ===================================================================== section handovers, frames, timers, requests

theorem FeederRun.summaryChanged : FeederRun k s (t.summaryChanged k) := .ite (.ite h.enterOpen h.lockOut) h.abandonTest
theorem FeederRun.linkLost : FeederRun k s (t.linkLost k) := .ite h.enterLineTest h
theorem FeederRun.itOutExit : FeederRun k s (t.itOutExit k) := .ite h h.clearItOut
theorem FeederRun.liveStep : FeederRun k s (t.liveStep k) := .ite h h.setFeeder
theorem FeederRun.windowStep : FeederRun k s (t.windowStep k) := .ite h.setFeeder h

theorem FeederRun.feederFrame : FeederRun k s (t.feederFrame k) := by
  refine (FeederRun.ite h ?_).liveStep.windowStep
  dsimp only
  split
  · exact (FeederRun.ite h.setDisc.trigger h.setDisc).ownTrip
  · exact FeederRun.ite h.setDisc.trigger h.setDisc

theorem FeederRun.sotfTaken : FeederRun k s (t.sotfTaken k) := .ite h.setDisc h
theorem FeederRun.closeExpiry : FeederRun k s (t.closeExpiry k) := .ite h.lockOut h

theorem FeederRun.deadExpiry : FeederRun k s (t.deadExpiry k) :=
  .ite (.ite h.enterClosing (.ite h.enterWait h.enterLineTest)) h

theorem FeederRun.reclaimDone : FeederRun k s (t.reclaimDone k) := .ite h.setFeeder h
theorem FeederRun.settleDone : FeederRun k s (t.settleDone k) := .ite h.setFeeder h
theorem FeederRun.retryDone : FeederRun k s (t.retryDone k) := .ite h.enterLineTest h
theorem FeederRun.waitDone : FeederRun k s (t.waitDone k) := .ite h.enterLineTest h
theorem FeederRun.liveClose : FeederRun k s (t.liveClose k) := .ite h.enterClosing h

theorem FeederRun.closeAccepted : FeederRun k s (t.closeAccepted k) :=
  .ite h.setFeeder.enterClosing (.ite h.setFeeder.enterLineTest h.setFeeder.enterClosing)

theorem FeederRun.openRequest (ho : t.openRequest k = some u) : FeederRun k s u := by
  unfold State.openRequest at ho
  split at ho
  · cases ho
  · split at ho <;> cases ho
    case h_1 | h_2 => exact h.openBreaker
    case h_5 => exact h.cancelTest.enterOpen
    all_goals exact h.enterOpen

theorem FeederRun.resetAccepted : FeederRun k s (t.resetAccepted k) :=
  .ite h.setFeeder.clearItOut.enterBlocked
    (.ite h.setFeeder.clearItOut.enterClosed h.setFeeder.clearItOut.enterOpen)

theorem FeederRun.localReset : FeederRun k s (t.localReset k) := .ite h.resetAccepted h

theorem FeederRun.blockRequest (hb : t.blockRequest k = some u) : FeederRun k s u := by
  unfold State.blockRequest at hb
  split at hb
  · cases hb
  · split at hb
    case h_3 =>
      split at hb <;> cases hb
      exact h.setFeeder
    case h_7 => cases hb; exact h.cancelTest.enterBlocked
    case h_8 => cases hb; exact h.setFeeder
    case h_9 => cases hb
    case h_1 | h_2 => cases hb; exact h.openBreaker
    all_goals cases hb; exact h.enterBlocked

end runs

-- ===================================================================== what a run leaves and keeps

section leaves

variable {k : Fin 6} {s t : State} (h : FeederRun k s t)
include h

/-- Every other feeder, discriminator and section stays. -/
theorem FeederRun.other {j : Fin 6} (hj : j ≠ k) :
    t.feeder[j] = s.feeder[j] ∧ t.disc[j] = s.disc[j] ∧ t.sec[j] = s.sec[j] := by
  induction h with
  | refl => exact ⟨rfl, rfl, rfl⟩
  | moveFeeder _ ih =>
    rw [moveFeeder_spec]
    exact ⟨(set_other _ _ hj).trans ih.1, (set_other _ _ hj).trans ih.2.1, (set_other _ _ hj).trans ih.2.2⟩
  | setFeeder _ _ ih => exact ⟨(set_other _ _ hj).trans ih.1, ih.2⟩
  | setDisc _ ih => exact ⟨ih.1, (set_other _ _ hj).trans ih.2.1, ih.2.2⟩
  | itOut _ ih => exact ⟨ih.1, ih.2.1, (set_other _ _ hj).trans ih.2.2⟩
  | log _ ih => exact ih
  | @trigger t n _ ih =>
    obtain ⟨_, hc⟩ := trigger_spec n t
    rw [hc]
    exact ih

/-- Of its own section a feeder sequence writes intertrip_out and the line-test role alone. -/
theorem FeederRun.own : ∃ o r, t.sec[k] = { s.sec[k] with itOut := o, role := r } := by
  induction h with
  | refl => exact ⟨_, _, rfl⟩
  | moveFeeder _ ih =>
    obtain ⟨_, _, hsec⟩ := ih
    rw [moveFeeder_spec]
    exact ⟨_, _, (set_same ..).trans (by rw [hsec])⟩
  | setFeeder _ _ ih => exact ih
  | setDisc _ ih => exact ih
  | itOut _ ih =>
    obtain ⟨_, _, hsec⟩ := ih
    exact ⟨_, _, (set_same ..).trans (by rw [hsec])⟩
  | log _ ih => exact ih
  | @trigger t n _ ih =>
    obtain ⟨_, hc⟩ := trigger_spec n t
    rw [hc]
    exact ih

/-- A role that goes with the feeder's state goes with it still (R54): a move sets both, nothing else sets either. -/
theorem FeederRun.role (hr : s.sec[k].role = s.feeder[k].state.role) : t.sec[k].role = t.feeder[k].state.role := by
  induction h with
  | refl => exact hr
  | moveFeeder _ _ =>
    rw [moveFeeder_spec]
    dsimp only
    rw [set_same, set_same]
    rfl
  | setFeeder _ hf ih => exact ih.trans (by rw [State.setFeeder_self, hf])
  | setDisc _ ih => exact ih
  | itOut _ ih => exact (congrArg Section.role (set_same ..)).trans ih
  | log _ ih => exact ih
  | @trigger t n _ ih =>
    obtain ⟨_, hc⟩ := trigger_spec n t
    rw [hc]
    exact ih

end leaves

end Sys2Proof.Proofs
end

section
/-! The line-test roles go with the feeder states (R53, R54). A run of one feeder sequence keeps the agreement, since a
move writes both; what the other blocks do to a section leaves its role, and only time and a reset touch the feeders
from outside. One lemma per operation that reaches beyond one feeder sequence, in the order of the model's files. -/
namespace Sys2Proof.Proofs

open Sys2Proof Sys2Proof.Machine Sys2Proof.Laws

/-- The role of every section is the one of its feeder's state. -/
structure RolesHold (s : State) : Prop where
  role : ∀ k : Fin 6, s.sec[k].role = s.feeder[k].state.role

/-- The roles of R54 are those of FState.role. -/
theorem rolesHold_iff (s : State) : RolesHold s ↔ RolesFollow s := by
  have hrole (st : FState) : st.role =
      if st = .lineTest then .leader else if st = .waitPartner then .follower else .none := by cases st <;> rfl
  exact ⟨fun h k => (h.role k).trans (hrole _), fun h => ⟨fun k => (h k).trans (hrole _).symm⟩⟩

variable {s t : State}

theorem RolesHold.ite {c : Prop} [Decidable c] (h : RolesHold s) (h' : RolesHold t) :
    RolesHold (if c then s else t) := by split <;> assumption

theorem RolesHold.foldl {α : Type} {f : State → α → State} (l : List α)
    (hf : ∀ a t, RolesHold t → RolesHold (f t a)) (h : RolesHold s) : RolesHold (l.foldl f s) := by
  induction l generalizing s with
  | nil => exact h
  | cons a l ih => exact ih (hf a s h)

theorem RolesHold.answerIte {c : Prop} [Decidable c] {a b : Answer} (ha : RolesHold a.state)
    (hb : RolesHold b.state) : RolesHold (if c then a else b).state := by split <;> assumption

/-- A telegram writes the partner fields of a section alone (R45). -/
theorem write_role (c : Section) (n : Nat) (es : List Entry) : (c.write n es).role = c.role := by
  unfold Section.write
  split <;> rfl

section operations

variable {k : Fin 6} {g : Fin 2} {j : Fin 4} {p : Port} {i : Fin 16} (h : RolesHold s)
include h

/-- What leaves the feeders and the sections, checked by computation. -/
theorem RolesHold.same (hf : t.feeder = s.feeder := by rfl) (hs : t.sec = s.sec := by rfl) : RolesHold t :=
  ⟨fun k => by rw [hf, hs]; exact h.role k⟩

/-- A feeder sequence acts. -/
theorem RolesHold.run (hr : FeederRun k s t) : RolesHold t := by
  refine ⟨fun i => ?_⟩
  by_cases hi : i = k
  · rw [hi]
    exact hr.role (h.role k)
  · obtain ⟨hf, _, hs⟩ := hr.other hi
    rw [hf, hs]
    exact h.role i

/-- The groups and the station record change. -/
theorem RolesHold.station (ha : StationActs s t) : RolesHold t := h.same ha.feeder ha.sec

/-- Another field of a section is written. -/
theorem RolesHold.setSec {c : Section} (hc : c.role = s.sec[k].role := by rfl) : RolesHold (s.setSec k c) := by
  refine ⟨fun i => Eq.trans ?_ (h.role i)⟩
  by_cases hi : i = k
  · rw [hi, State.setSec_self, hc]
  · rw [State.setSec_other _ _ _ _ (Ne.symm hi)]

theorem RolesHold.setPort {r : PortRec} : RolesHold (s.setPort p r) := h.same (by cases p <;> rfl) (by cases p <;> rfl)
theorem RolesHold.setLink {l : LinkRec} : RolesHold (s.setLink j l) := h.same
theorem RolesHold.setSts {r : Sts} : RolesHold (s.setSts r) := h.same
theorem RolesHold.setCmp {c : Cmp} : RolesHold (s.setCmp c) := h.same
theorem RolesHold.setSyncRec {r : SyncRec} : RolesHold (s.setSyncRec g r) := h.same
theorem RolesHold.setTerm {r : Terminal} : RolesHold (s.setTerm i r) := h.same
theorem RolesHold.setBfb {b : Bfb} : RolesHold (s.setBfb k b) := h.same
theorem RolesHold.setLine {b : Bool} : RolesHold (s.setLine i b) := h.same
theorem RolesHold.setLines {b : BitVec 16} : RolesHold { s with lines := b } := h.same
theorem RolesHold.setAqu {a : Aqu} : RolesHold { s with aqu := a } := h.same
theorem RolesHold.setCap {c : Cap} : RolesHold { s with cap := c } := h.same
theorem RolesHold.log {b : Block} {n : Nat} {e : EventKind} {v1 v2 : Word16} {r : CapRef} :
    RolesHold (s.log b n e v1 v2 r) := h.same

/-- A timer that runs leaves its feeder's state. -/
theorem RolesHold.advance {us : Nat} : RolesHold (s.advance us) := by
  unfold State.advance
  refine .ite h.same ⟨fun i => Eq.trans (h.role i) ?_⟩
  simp only [State.runTimers, Fin.getElem_fin, getElem_vmap]

-- ===================================================================== sections (chapter 3)

theorem RolesHold.reevaluate : RolesHold (s.reevaluate k) := .ite h h.setSec.log

theorem RolesHold.handSection {c : Section} : RolesHold (s.handSection k c) :=
  ((h.ite (h.run FeederRun.refl.summaryChanged)).run FeederRun.refl.handIntertrip).reevaluate

theorem RolesHold.setItTerminal {b : Bool} : RolesHold (s.setItTerminal k b) := h.setSec.run FeederRun.refl.handIntertrip
theorem RolesHold.sectionReplaced : RolesHold (s.sectionReplaced k) := h.setSec.handSection

theorem RolesHold.writeTelegram {m : Mode} {n : Nat} {es : List Entry} : RolesHold (s.writeTelegram j m n es) :=
  .foldl _ (fun _ _ h => .ite h.handSection h)
    (.foldl _ (fun _ _ h => .ite (h.setSec (write_role _ _ _)) h) h.setLink)

theorem RolesHold.clearSections : RolesHold (s.clearSections j) :=
  .foldl _ (fun _ _ h => .ite h.reevaluate h) (.foldl _ (fun _ _ h => .ite h.setSec h) h)

theorem RolesHold.handLinkLost : RolesHold (s.handLinkLost j) :=
  .foldl _ (fun _ _ h => .ite (h.run FeederRun.refl.linkLost) h) h

-- ===================================================================== links (chapter 5)

theorem RolesHold.handTelegram {x : Telegram} : RolesHold (s.handTelegram j x) := by
  unfold State.handTelegram
  split
  · exact h.writeTelegram
  · exact h

theorem RolesHold.queueOn {x : Queued} : RolesHold (s.queueOn p x) := h.setPort
theorem RolesHold.sendStatus : RolesHold (s.sendStatus j) := .ite h.setLink.queueOn h
theorem RolesHold.telegramPeriodTaken : RolesHold s.telegramPeriodTaken :=
  .ite (.foldl partners4 (fun _ _ h => h.sendStatus) h) h

theorem RolesHold.linkDown {c : LinkCause} : RolesHold (s.linkDown j c) := h.setLink.log.clearSections.handLinkLost

theorem RolesHold.partnersDown {c : LinkCause} : RolesHold (s.partnersDown p c) :=
  .foldl partners4 (fun _ _ h => .ite (.ite h.setLink.linkDown h.setLink) h) h

theorem RolesHold.partnerExpiry : RolesHold (s.partnerExpiry j) := .ite (.ite h.setLink.setPort.linkDown h.setLink) h
theorem RolesHold.enterSyncing {c : LinkCause} {b : Bool} : RolesHold (s.enterSyncing p c b) := h.setPort.partnersDown.log
theorem RolesHold.syncLoss : RolesHold (s.syncLoss p) := .ite (.ite h.enterSyncing (.ite h.enterSyncing h)) h
theorem RolesHold.syncLossTaken : RolesHold (s.syncLossTaken p) := .ite h.syncLoss h

theorem RolesHold.partnerReplaced {c : PartnerCfg} : RolesHold (s.partnerReplaced j c) := by
  unfold State.partnerReplaced
  dsimp only
  split
  · exact h.setLink.setPort.log.clearSections.handLinkLost
  · exact h.setLink.setPort.clearSections

theorem RolesHold.accepted {b : Bool} {x : Telegram} : RolesHold (s.accepted j b x) :=
  .ite h.setLink.handTelegram h.setLink

theorem RolesHold.acceptTest {x : Telegram} : RolesHold (s.acceptTest p x) := by
  unfold State.acceptTest
  split
  · exact h.setPort
  · split
    · exact h
    · exact h.accepted
    · exact h.setPort.accepted

theorem RolesHold.linkUpTaken : RolesHold (s.linkUpTaken j) := by
  refine .ite ?_ h
  split
  · exact h.setLink.log.handTelegram
  · exact h

theorem RolesHold.forward {x : Telegram} : RolesHold (s.forward p x) := .ite (.ite h.setPort h.queueOn) h.setPort

theorem RolesHold.treat {x : Telegram} : RolesHold (s.treat p x) := by
  unfold State.treat
  split
  · exact .ite (.ite h.setPort h) h.queueOn
  · exact .ite h (.ite h.acceptTest h.forward)

theorem RolesHold.regain : RolesHold (s.regain p) := .ite h.setPort.log h

theorem RolesHold.receive {bytes : List Byte} {b : Bool} : RolesHold (s.receive p bytes b) := by
  refine .ite h ?_
  dsimp only
  split
  · exact h.setPort.setPort
  · exact .ite h.setPort.setPort.regain.treat h.setPort.setPort.regain

theorem RolesHold.startTestOn {n : Nat} : RolesHold (s.startTestOn p n) := h.setPort.partnersDown.log
theorem RolesHold.sendTest : RolesHold (s.sendTest p) := .ite h.setPort.queueOn h

theorem RolesHold.echoMissing : RolesHold (s.echoMissing p) := by
  unfold State.echoMissing
  split
  · exact h
  · exact .ite h.setPort h

theorem RolesHold.endTest : RolesHold (s.endTest p) := h.setPort.enterSyncing
theorem RolesHold.testExpiry : RolesHold (s.testExpiry p) := .ite h.endTest h

-- ===================================================================== rectifier and station (chapters 6 and 7)

theorem RolesHold.crossing {ph : Phase} {time : Nat} : RolesHold (s.crossing g ph time) := by
  refine .ite h ?_
  cases ph <;> exact h.same

theorem RolesHold.syncClockFail : RolesHold (s.syncClockFail g) :=
  h.setSyncRec.station (StationActs.refl _).blockGroup

theorem RolesHold.syncLost : RolesHold (s.syncLost g) := h.setSyncRec.station (StationActs.refl _).blockGroup

theorem RolesHold.crossingExpiry : RolesHold (s.crossingExpiry g) :=
  .ite (.ite h.setSyncRec.syncLost h.setSyncRec.setSyncRec) h

theorem RolesHold.syncChange : RolesHold (s.syncChange g) :=
  .ite (.ite h.syncLost (h.setSyncRec.station (StationActs.refl _).groupCauseCleared)) h

theorem RolesHold.tripAll : RolesHold s.tripAll := .foldl _ (fun _ _ h => h.run FeederRun.refl.stationTrip) h
theorem RolesHold.itOutAll : RolesHold s.itOutAll := .foldl _ (fun _ _ h => h.run FeederRun.refl.setItOut) h

theorem RolesHold.enterSafe : RolesHold s.enterSafe :=
  (h.station (StationActs.refl _).setSts).tripAll.itOutAll.station (StationActs.refl _).groupsOnMode.trigger.log

theorem RolesHold.causePresent {c : SafeCause} : RolesHold (s.causePresent c) :=
  have hc : RolesHold ((s.setSts (s.sts.setCause c true)).logSts .safeCause (safeCauseValue c)
    (uword causePresentCode)) := h.same
  .ite h (.ite hc hc.enterSafe)

theorem RolesHold.safeExits : RolesHold (feeders6.foldl (fun s k => s.safeExit k) s) :=
  .foldl _ (fun _ _ h => h.run FeederRun.refl.safeExit) h

theorem RolesHold.itOutExits : RolesHold (feeders6.foldl (fun s k => s.itOutExit k) s) :=
  .foldl _ (fun _ _ h => h.run FeederRun.refl.itOutExit) h

theorem RolesHold.resume : RolesHold s.resume := by
  have hm : RolesHold ((s.setSts { s.sts with run := false }).changeMode .standby .resume) :=
    h.station (StationActs.refl _).setSts.changeMode
  exact hm.safeExits.itOutExits

theorem RolesHold.breakerFailure : RolesHold (s.breakerFailure k) :=
  have hb := (h.run FeederRun.refl.breakerFailed).causePresent (c := .breakerFail k)
  .ite hb (hb.station (StationActs.refl _).causeCleared)

theorem RolesHold.openExpiry : RolesHold (s.openExpiry k) :=
  .ite (.ite h.breakerFailure (h.run FeederRun.refl.openingDone)) h

theorem RolesHold.bfbReported : RolesHold (s.bfbReported k) :=
  .ite (h.run FeederRun.refl.bfbAsserts)
    ((h.run FeederRun.refl.bfbReleases).station (StationActs.refl _).causeCleared)

theorem RolesHold.frameFaultTaken : RolesHold s.frameFaultTaken :=
  .ite (h.station (StationActs.refl _).setSts.logSts).causePresent h

theorem RolesHold.hostHeard : RolesHold s.hostHeard := .ite h.same h.same
theorem RolesHold.hostLost : RolesHold s.hostLost := .ite h.same h

-- ===================================================================== terminals (chapter 8)

theorem RolesHold.bfbExpiry : RolesHold (s.bfbExpiry k) :=
  .ite (.ite h.setBfb.bfbReported h.setBfb) h

theorem RolesHold.handChange {fn : TermFn} {b : Bool} : RolesHold (s.handChange fn b) := by
  cases fn with
  | tempTrip g => exact h.station (StationActs.refl _).setTemp
  | localReset k => exact .ite (h.run FeederRun.refl.localReset) h
  | itIn k => exact h.setItTerminal
  | none | rplOut | rplFb | itOut _ | alarmOut => exact h

theorem RolesHold.handFirst {fn : TermFn} {b : Bool} : RolesHold (s.handFirst fn b) := by
  cases fn with
  | tempTrip g => exact h.station (StationActs.refl _).setTemp
  | itIn k => exact h.setItTerminal
  | none | localReset _ | rplOut | rplFb | itOut _ | alarmOut => exact h

theorem RolesHold.leaveFunction {fn : TermFn} : RolesHold (s.leaveFunction fn) := by
  cases fn with
  | tempTrip g => exact h.station (StationActs.refl _).setTemp
  | itIn k => exact h.setSec
  | none | localReset _ | rplOut | rplFb | itOut _ | alarmOut => exact h.same

theorem RolesHold.terminalChanged : RolesHold (s.terminalChanged i) :=
  .ite h.setTerm.handChange.log h.setTerm.handChange

theorem RolesHold.sampleTerminal : RolesHold (s.sampleTerminal i) :=
  .ite (.ite h.setTerm h.setTerm.terminalChanged) h

theorem RolesHold.sampleTerminals : RolesHold s.sampleTerminals := .foldl terminals16 (fun _ _ h => h.sampleTerminal) h

theorem RolesHold.applyTerminal {c : TermCfg} : RolesHold (s.applyTerminal i c) := by
  rw [applyTerminal_eq]
  have hl : RolesHold (functionLeft i c s) := h.ite h.leaveFunction
  exact .ite hl.setTerm.handFirst hl.setTerm

theorem RolesHold.applyTerminals : RolesHold s.applyTerminals := .foldl terminals16 (fun _ _ h => h.applyTerminal) h

-- ===================================================================== captures and acquisition (chapters 9 and 1)

theorem RolesHold.armTest : RolesHold s.armTest := by
  obtain ⟨c, hc⟩ := armTest_spec s
  rw [hc]
  exact h.same

theorem RolesHold.captureTaken : RolesHold s.captureTaken := by
  unfold State.captureTaken
  split
  · exact h
  · rename_i b _
    obtain ⟨c, hc⟩ := completeCapture_spec b s
    rw [hc]
    exact h.same

theorem RolesHold.stopLive {b : BufId} : RolesHold (s.stopLive b) :=
  .ite h.setCap.armTest h.setCap

theorem RolesHold.disableCaptureTaken : RolesHold s.disableCaptureTaken := by
  unfold State.disableCaptureTaken
  dsimp only
  split <;> exact h.same

theorem RolesHold.averageTaken : RolesHold s.averageTaken := .ite h.same h

theorem RolesHold.storeTakesFrame : RolesHold s.storeTakesFrame := h.same

theorem RolesHold.feedersTakeFrame : RolesHold s.feedersTakeFrame :=
  .foldl _ (fun _ _ h => h.run FeederRun.refl.feederFrame) h

theorem RolesHold.consume : RolesHold s.consume :=
  h.storeTakesFrame.feedersTakeFrame.station (StationActs.refl _).groupsTakeFrame.stationTakesFrame

theorem RolesHold.frame {lines : BitVec 16} : RolesHold (s.frame lines) :=
  .ite h.advance.setLines.sampleTerminals.setAqu.consume h

theorem RolesHold.conversionDone {c : Fin 17} {n : Word32} {m : Int} : RolesHold (s.conversionDone c n m) := .ite h.same h

theorem RolesHold.handFailure {c : ChannelUse} : RolesHold (s.handFailure c) := by
  cases c with
  | ub | ife => exact h.causePresent
  | ur => exact h.station (StationActs.refl _).railOut
  | ig g => exact h.station (StationActs.refl _).groupChannelFailed
  | feederCurrent k => exact h.run FeederRun.refl.currentFailed
  | lineVoltage k => exact h.run FeederRun.refl.voltageFailed

theorem RolesHold.channelFailTaken {c : Fin 17} : RolesHold (s.channelFailTaken c) := by
  by_cases hd : s.channelFailDue c = true
  · rw [channelFailTaken_eq c s hd]
    exact RolesHold.handFailure h.same
  · rw [channelFailTaken_idle (Bool.eq_false_iff.2 hd)]
    exact h

theorem RolesHold.channelRestoredTaken {c : Fin 17} : RolesHold (s.channelRestoredTaken c) := by
  by_cases hd : s.channelRestoredDue c = true
  · rw [channelRestoredTaken_eq c s hd]
    exact RolesHold.station (s := channelLogged c _ _ _ s) h.same (StationActs.refl _).handRestoration
  · rw [channelRestoredTaken_idle (Bool.eq_false_iff.2 hd)]
    exact h

theorem RolesHold.window {w : Window} : RolesHold (s.window w) :=
  (h.ite (h.advance (us := 100))).same (t := s.window w)

theorem RolesHold.clockFailTaken : RolesHold s.clockFailTaken :=
  .ite (RolesHold.foldl groups2 (fun _ _ h => h.syncClockFail) h.same).causePresent h

theorem RolesHold.clockGoodTaken : RolesHold s.clockGoodTaken := by
  refine .ite ?_ h
  rw [causeCleared_clockFail, readStraps_spec]
  exact h.same

-- ===================================================================== settings (chapter 11)

theorem RolesHold.handRecord {c : Settings} {id : RecId} : RolesHold (s.handRecord c id) := by
  cases id with
  | station => exact h.station (StationActs.refl _).stationReplaced
  | sectionRec k => exact h.sectionReplaced
  | partner j => exact h.partnerReplaced
  | terminal i => exact h.applyTerminal
  | general _ | groupA _ | groupB _ | capture => exact h

theorem RolesHold.replaceRecord {c : Settings} {id : RecId} : RolesHold (s.replaceRecord c id) :=
  (h.same (t := { s.setLive c with sst := { (s.setLive c).sst with
    confirm := (s.setLive c).sst.confirm || (s.setLive c).sst.lost } })).handRecord

theorem RolesHold.defaultsTaken : RolesHold s.defaultsTaken := .foldl RecId.all (fun _ _ h => h.replaceRecord) h

theorem RolesHold.loadDone : RolesHold s.loadDone := by
  refine .ite ?_ h
  dsimp only
  split <;> exact h.same

theorem RolesHold.storeDone : RolesHold s.storeDone := by
  unfold State.storeDone
  split
  · exact h.same
  · exact h

theorem RolesHold.startTaken : RolesHold s.startTaken := by
  refine .ite ?_ h
  have ha : RolesHold s.adoptAll := .foldl _ (fun _ _ h => h.run FeederRun.refl.adopt) h
  have hc : RolesHold (s.adoptAll.setSts { s.adoptAll.sts with complete := true }) := ha.setSts
  exact (RolesHold.ite (hc.station (StationActs.refl _).changeMode) hc).setSts.applyTerminals

-- ===================================================================== requests (chapter 10)

theorem RolesHold.withLength {n : Nat} {pl : List Byte} {a : Answer} (ha : RolesHold a.state) :
    RolesHold (withLength n pl s a).state := by
  unfold Machine.withLength
  split
  · exact ha
  · exact h

theorem RolesHold.withArg {α : Type} {n : Nat} {pl : List Byte} {x : Option α} {f : α → Answer}
    (hf : ∀ a, RolesHold (f a).state) : RolesHold (withArg n pl x s f).state := by
  refine h.withLength ?_
  split
  · exact hf _
  · exact h

theorem RolesHold.withRecord {x y : Byte} {f : RecId → Answer} (hf : ∀ id, RolesHold (f id).state) :
    RolesHold (s.withRecord x y f).state := by
  unfold State.withRecord
  split
  · exact h
  · exact h
  · exact hf _

variable {pl : List Byte}

theorem RolesHold.answerRunStation : RolesHold (s.answerRunStation pl).state :=
  h.withLength (.answerIte h (.answerIte (h.station (StationActs.refl _).runTaken) h))

theorem RolesHold.answerStandbyStation : RolesHold (s.answerStandbyStation pl).state :=
  h.withLength (.answerIte (h.station (StationActs.refl _).standbyTaken) h)

theorem RolesHold.answerResumeStation : RolesHold (s.answerResumeStation pl).state := by
  refine h.withLength (.answerIte ?_ h)
  rw [ok_state]
  exact h.resume

theorem RolesHold.answerResetRail : RolesHold (s.answerResetRail pl).state :=
  h.withLength (.answerIte h (.answerIte h (.answerIte (h.station (StationActs.refl _).railReset) h)))

theorem RolesHold.answerCloseFeeder : RolesHold (s.answerCloseFeeder pl).state :=
  h.withArg fun _ => .answerIte (h.run FeederRun.refl.closeAccepted) h

theorem RolesHold.answerOpenFeeder : RolesHold (s.answerOpenFeeder pl).state := by
  refine h.withArg fun k => ?_
  split
  · exact h.run (FeederRun.refl.openRequest ‹_›)
  · exact h

theorem RolesHold.answerResetFeeder : RolesHold (s.answerResetFeeder pl).state :=
  h.withArg fun _ => .answerIte (h.run FeederRun.refl.resetAccepted) h

theorem RolesHold.answerBlockFeeder : RolesHold (s.answerBlockFeeder pl).state := by
  refine h.withArg fun k => ?_
  split
  · exact h.run (FeederRun.refl.blockRequest ‹_›)
  · exact h

theorem RolesHold.answerUnblockFeeder : RolesHold (s.answerUnblockFeeder pl).state :=
  h.withArg fun _ => .answerIte (h.run FeederRun.refl.enterOpen) h

theorem RolesHold.answerEnableGroup : RolesHold (s.answerEnableGroup pl).state :=
  h.withArg fun _ => .answerIte (h.station (StationActs.refl _).enableTaken) h

theorem RolesHold.answerDisableGroup : RolesHold (s.answerDisableGroup pl).state :=
  h.withArg fun _ => .answerIte h (h.station (StationActs.refl _).disableTaken)

theorem RolesHold.answerResetGroup : RolesHold (s.answerResetGroup pl).state :=
  h.withArg fun _ => .answerIte (h.station (StationActs.refl _).resetTaken) h

theorem RolesHold.answerReadLink : RolesHold (s.answerReadLink pl).state := h.withArg fun _ => h.setPort

theorem RolesHold.answerStartLinkTest : RolesHold (s.answerStartLinkTest pl).state := by
  refine h.withArg fun x => .answerIte (.answerIte h ?_) h
  split
  · exact h
  · exact h.startTestOn

theorem RolesHold.answerStopLinkTest : RolesHold (s.answerStopLinkTest pl).state :=
  h.withArg fun _ => .answerIte h.endTest h

theorem RolesHold.answerReadSetting : RolesHold (s.answerReadSetting pl).state := by
  unfold State.answerReadSetting
  split
  · exact h.withRecord fun _ => h
  · exact h

theorem RolesHold.writeRequest {x y : Byte} {bytes : List Byte} {id : RecId} :
    RolesHold (s.writeRequest x y bytes id).state := by
  refine .answerIte h ?_
  split
  · exact h
  · split
    · exact h
    · exact h.replaceRecord

theorem RolesHold.answerWriteSetting : RolesHold (s.answerWriteSetting pl).state := by
  refine .answerIte ?_ h
  split
  · exact h.withRecord fun _ => h.writeRequest
  · exact h

theorem RolesHold.answerLoadDefaults : RolesHold (s.answerLoadDefaults pl).state :=
  h.withLength (.answerIte h (.answerIte h.defaultsTaken h))

theorem RolesHold.answerReadCapture : RolesHold (s.answerReadCapture pl).state :=
  h.withArg fun _ => .answerIte h (.answerIte h (.answerIte h (.answerIte h h)))

theorem RolesHold.answerReleaseCapture : RolesHold (s.answerReleaseCapture pl).state :=
  h.withArg fun _ => .answerIte h.setCap.armTest h

theorem RolesHold.answerStopCapture : RolesHold (s.answerStopCapture pl).state := by
  refine h.withLength ?_
  split
  · exact h.stopLive
  · exact h

theorem RolesHold.answerTriggerCapture : RolesHold (s.answerTriggerCapture pl).state :=
  h.withLength (h.station (StationActs.refl _).trigger)

theorem RolesHold.answerEnableCapture : RolesHold (s.answerEnableCapture pl).state :=
  h.withLength h.setCap.armTest

theorem RolesHold.answerDisableCapture : RolesHold (s.answerDisableCapture pl).state :=
  h.withLength h.disableCaptureTaken

theorem RolesHold.answerSetOutput : RolesHold (s.answerSetOutput pl).state := by
  refine h.withArg fun i => ?_
  split
  · exact .answerIte h.same h
  · exact h

/-- A request of any kind (R200): those not named above leave feeders and sections. -/
theorem RolesHold.judge {kind : Byte} : RolesHold (s.judge kind pl).state := by
  unfold State.judge
  split
  · exact h.withLength h
  · exact h.answerRunStation
  · exact h.answerStandbyStation
  · exact h.answerResumeStation
  · exact h.withLength h.same
  · exact h.withLength h.same
  · exact h.answerResetRail
  · exact h.withLength h
  · exact h.withLength h
  · exact h.withArg fun _ => h
  · exact h.answerCloseFeeder
  · exact h.answerOpenFeeder
  · exact h.answerResetFeeder
  · exact h.answerBlockFeeder
  · exact h.answerUnblockFeeder
  · exact h.withLength h
  · exact h.answerEnableGroup
  · exact h.answerDisableGroup
  · exact h.answerResetGroup
  · exact h.withLength (.answerIte h h.same)
  · exact h.withLength h
  · exact h.answerReadLink
  · exact h.answerStartLinkTest
  · exact h.answerStopLinkTest
  · exact h.answerReadSetting
  · exact h.answerWriteSetting
  · exact h.withLength (.answerIte h h.same)
  · exact h.answerLoadDefaults
  · exact h.withLength h
  · exact h.withLength (.answerIte h.same h)
  · exact h.withLength h
  · exact h.answerReadCapture
  · exact h.answerReleaseCapture
  · exact h.answerStopCapture
  · exact h.answerTriggerCapture
  · exact h.answerEnableCapture
  · exact h.answerDisableCapture
  · exact h.withLength h.same
  · exact h.answerSetOutput
  · exact h

theorem RolesHold.takeRequest {kind tag : Byte} {answer : State → Answer}
    (ha : ∀ u, RolesHold u → RolesHold (answer u).state) : RolesHold (s.takeRequest kind tag answer) := by
  refine .ite h.hostHeard ?_
  split
  · exact (ha _ h.hostHeard).setCmp
  · exact h.hostHeard.setCmp
  · exact h.hostHeard

theorem RolesHold.request {kind tag : Byte} {answer : State → Answer}
    (ha : ∀ u, RolesHold u → RolesHold (answer u).state) : RolesHold (s.request kind tag pl answer) :=
  .ite (h.setCmp.takeRequest ha) h.setCmp

theorem RolesHold.character {c : Byte} : RolesHold (s.character c) := by
  refine .ite (.ite h.setCmp h) (.ite h.setCmp (.ite h.setCmp (.ite h.setCmp (.ite ?_ h.setCmp))))
  split
  · exact h.setCmp.takeRequest fun _ hu => hu.judge
  · exact h.setCmp

theorem RolesHold.characters {cs : List Byte} : RolesHold (s.characters cs) := by
  induction cs generalizing s with
  | nil => exact h
  | cons c rest ih => exact ih h.character

theorem RolesHold.abandon {how : Abandon} : RolesHold (s.abandon how) := by
  cases how with
  | lateCharacter c => exact RolesHold.character (s := s.hunt) h.setCmp
  | missingStopBit => exact h.setCmp

-- ===================================================================== every command

theorem RolesHold.settle : RolesHold s.settle :=
  have hf := RolesHold.foldl (f := fun s c => s.channelFailTaken c) channels17 (fun _ _ h => h.channelFailTaken)
    h.clockFailTaken.clockGoodTaken
  have hr := RolesHold.foldl (f := fun s c => s.channelRestoredTaken c) channels17
    (fun _ _ h => h.channelRestoredTaken) hf
  have hs := RolesHold.foldl (f := fun s k => s.sotfTaken k) feeders6 (fun _ _ h => h.run FeederRun.refl.sotfTaken) hr
  have ht := RolesHold.foldl (f := fun s k => s.testWindowTaken k) feeders6
    (fun _ _ h => h.run FeederRun.refl.testWindowTaken) hs
  have hu := RolesHold.foldl (f := fun s j => s.linkUpTaken j) partners4 (fun _ _ h => h.linkUpTaken) ht
  have hp := RolesHold.foldl (f := fun s p => s.syncLossTaken p) ports2 (fun _ _ h => h.syncLossTaken) hu
  have hl := RolesHold.foldl (f := fun s k => s.liveClose k) feeders6 (fun _ _ h => h.run FeederRun.refl.liveClose) hp
  have hy := RolesHold.foldl (f := fun s g => s.syncChange g) groups2 (fun _ _ h => h.syncChange) hl
  have ho := RolesHold.foldl (f := fun s g => s.overcurrentTaken g) groups2
    (fun _ _ h => h.station (StationActs.refl _).overcurrentTaken) hy
  (ho.frameFaultTaken.station (StationActs.refl _).railOperate).averageTaken.captureTaken.startTaken

end operations

/-- Every feeder of a part just reset stands in OPEN, and no section has a role. -/
theorem rolesHold_afterReset (c : RestartCause) (straps : Byte) (s : State) : RolesHold (s.afterReset c straps) :=
  RolesHold.same (s := State.reset) ((rolesHold_iff _).2 rolesFollow_reset)

theorem RolesHold.replyDone (h : RolesHold s) : RolesHold s.replyDone := by
  unfold State.replyDone
  split
  · exact h
  · split
    · exact rolesHold_afterReset _ _ _
    · split <;> exact h.setCmp

/-- A command from outside settles first (log 2). -/
theorem exec_rolesHold (c : Instr) (s : State) (h : RolesHold s) : ∃ t, exec c s = .next t ∧ RolesHold t := by
  have hs := h.settle
  cases c with
  | powerOn straps => exact ⟨_, rfl, rolesHold_afterReset _ _ _⟩
  | resetPin straps => exact ⟨_, rfl, rolesHold_afterReset _ _ _⟩
  | frameTrigger lines => exact ⟨_, rfl, hs.frame⟩
  | conversionComplete c r => exact ⟨_, rfl, hs.conversionDone⟩
  | channelFail c => exact ⟨_, rfl, h.channelFailTaken⟩
  | channelRestored c => exact ⟨_, rfl, h.channelRestoredTaken⟩
  | clockWindowEnd w => exact ⟨_, rfl, hs.window⟩
  | clockFail => exact ⟨_, rfl, h.clockFailTaken⟩
  | clockGood => exact ⟨_, rfl, h.clockGoodTaken⟩
  | sotfWindowEnd k => exact ⟨_, rfl, h.run FeederRun.refl.sotfTaken⟩
  | bfbRawChange _ _ => exact ⟨_, rfl, hs.setBfb⟩
  | bfbFilterExpiry _ => exact ⟨_, rfl, hs.bfbExpiry⟩
  | closeTimerExpiry _ => exact ⟨_, rfl, hs.run FeederRun.refl.closeExpiry⟩
  | openTimerExpiry _ => exact ⟨_, rfl, hs.openExpiry⟩
  | deadTimeExpiry _ => exact ⟨_, rfl, hs.run FeederRun.refl.deadExpiry⟩
  | reclaimExpiry _ => exact ⟨_, rfl, hs.run FeederRun.refl.reclaimDone⟩
  | settleExpiry _ => exact ⟨_, rfl, hs.run FeederRun.refl.settleDone⟩
  | lineTestWindowComplete _ => exact ⟨_, rfl, h.run FeederRun.refl.testWindowTaken⟩
  | retryExpiry _ => exact ⟨_, rfl, hs.run FeederRun.refl.retryDone⟩
  | tWaitExpiry _ => exact ⟨_, rfl, hs.run FeederRun.refl.waitDone⟩
  | liveLine _ => exact ⟨_, rfl, h.run FeederRun.refl.liveClose⟩
  | closeFeeder _ _ => exact ⟨_, rfl, hs.request fun _ hu => hu.answerCloseFeeder⟩
  | openFeeder _ _ => exact ⟨_, rfl, hs.request fun _ hu => hu.answerOpenFeeder⟩
  | resetFeeder _ _ => exact ⟨_, rfl, hs.request fun _ hu => hu.answerResetFeeder⟩
  | blockFeeder _ _ => exact ⟨_, rfl, hs.request fun _ hu => hu.answerBlockFeeder⟩
  | unblockFeeder _ _ => exact ⟨_, rfl, hs.request fun _ hu => hu.answerUnblockFeeder⟩
  | readFeeder _ _ => exact ⟨_, rfl, hs.request fun _ hu => hu.withArg fun _ => hu⟩
  | telegramReceived _ _ _ => exact ⟨_, rfl, hs.receive⟩
  | linkUp _ => exact ⟨_, rfl, h.linkUpTaken⟩
  | portSyncLoss p =>
    by_cases hd : s.syncLossDue p = true
    · exact ⟨s.syncLoss p, if_pos hd, h.syncLoss⟩
    · exact ⟨s.settle.syncLoss p, if_neg hd, hs.syncLoss⟩
  | telegramPeriod => exact ⟨_, rfl, hs.telegramPeriodTaken⟩
  | transmissionEnd _ => exact ⟨_, rfl, hs.setPort⟩
  | partnerTimeout _ => exact ⟨_, rfl, hs.partnerExpiry⟩
  | testTelegramPeriod _ => exact ⟨_, rfl, hs.sendTest⟩
  | testEchoTimeout _ => exact ⟨_, rfl, hs.echoMissing⟩
  | linkTestExpiry _ => exact ⟨_, rfl, hs.testExpiry⟩
  | readLink _ _ => exact ⟨_, rfl, hs.request fun _ hu => hu.answerReadLink⟩
  | startLinkTest _ _ => exact ⟨_, rfl, hs.request fun _ hu => hu.answerStartLinkTest⟩
  | stopLinkTest _ _ => exact ⟨_, rfl, hs.request fun _ hu => hu.answerStopLinkTest⟩
  | readSections _ _ => exact ⟨_, rfl, hs.request fun _ hu => hu.withLength hu⟩
  | syncCrossing _ _ _ => exact ⟨_, rfl, hs.crossing⟩
  | crossingTimerExpiry _ => exact ⟨_, rfl, hs.crossingExpiry⟩
  | syncStateChange _ => exact ⟨_, rfl, h.syncChange⟩
  | firingInstant _ _ => exact ⟨_, rfl, hs.station (StationActs.refl _).fire⟩
  | firingPulseEnd _ => exact ⟨_, rfl, hs.station (StationActs.refl _).pulseEnd⟩
  | overcurrent _ => exact ⟨_, rfl, h.station (StationActs.refl _).overcurrentTaken⟩
  | restartDelayExpiry _ => exact ⟨_, rfl, hs.station (StationActs.refl _).restartExpiry⟩
  | restartHistoryAgeing _ => exact ⟨_, rfl, hs.station (StationActs.refl _).restartAged⟩
  | enableGroup _ _ => exact ⟨_, rfl, hs.request fun _ hu => hu.answerEnableGroup⟩
  | disableGroup _ _ => exact ⟨_, rfl, hs.request fun _ hu => hu.answerDisableGroup⟩
  | resetGroup _ _ => exact ⟨_, rfl, hs.request fun _ hu => hu.answerResetGroup⟩
  | setVoltage _ _ => exact ⟨_, rfl, hs.request fun _ hu => hu.withLength (.answerIte hu hu.same)⟩
  | readGroups _ _ => exact ⟨_, rfl, hs.request fun _ hu => hu.withLength hu⟩
  | settingsLoadComplete => exact ⟨_, rfl, hs.loadDone⟩
  | startComplete => exact ⟨_, rfl, h.startTaken⟩
  | frameFault => exact ⟨_, rfl, h.frameFaultTaken⟩
  | railEarthOperate => exact ⟨_, rfl, h.station (StationActs.refl _).railOperate⟩
  | railHoldExpiry => exact ⟨_, rfl, hs.station (StationActs.refl _).holdExpiry⟩
  | railHistoryAgeing => exact ⟨_, rfl, hs.station (StationActs.refl _).railAged⟩
  | resetRailEarthing _ _ => exact ⟨_, rfl, hs.request fun _ hu => hu.answerResetRail⟩
  | hostSupervisionExpiry => exact ⟨_, rfl, hs.hostLost⟩
  | readStationStatus _ _ => exact ⟨_, rfl, hs.request fun _ hu => hu.withLength hu⟩
  | runStation _ _ => exact ⟨_, rfl, hs.request fun _ hu => hu.answerRunStation⟩
  | standbyStation _ _ => exact ⟨_, rfl, hs.request fun _ hu => hu.answerStandbyStation⟩
  | resumeStation _ _ => exact ⟨_, rfl, hs.request fun _ hu => hu.answerResumeStation⟩
  | setTime _ _ => exact ⟨_, rfl, hs.request fun _ hu => hu.withLength hu.same⟩
  | restart _ _ => exact ⟨_, rfl, hs.request fun _ hu => hu.withLength hu.same⟩
  | throughSourceChange _ _ => exact ⟨_, rfl, hs.setLine⟩
  | setOutput _ _ => exact ⟨_, rfl, hs.request fun _ hu => hu.answerSetOutput⟩
  | readTerminals _ _ => exact ⟨_, rfl, hs.request fun _ hu => hu.withLength hu.same⟩
  | countEvents _ _ => exact ⟨_, rfl, hs.request fun _ hu => hu.withLength hu⟩
  | takeEvents _ _ => exact ⟨_, rfl, hs.request fun _ hu => hu.withLength (.answerIte hu.same hu)⟩
  | averagePeriodComplete => exact ⟨_, rfl, h.averageTaken⟩
  | readMeasurements _ _ => exact ⟨_, rfl, hs.request fun _ hu => hu.withLength hu⟩
  | readEnergy _ _ => exact ⟨_, rfl, hs.request fun _ hu => hu.withLength hu⟩
  | captureComplete => exact ⟨_, rfl, h.captureTaken⟩
  | readCaptureStatus _ _ => exact ⟨_, rfl, hs.request fun _ hu => hu.withLength hu⟩
  | readCapture _ _ => exact ⟨_, rfl, hs.request fun _ hu => hu.answerReadCapture⟩
  | releaseCapture _ _ => exact ⟨_, rfl, hs.request fun _ hu => hu.answerReleaseCapture⟩
  | stopCapture _ _ => exact ⟨_, rfl, hs.request fun _ hu => hu.answerStopCapture⟩
  | triggerCapture _ _ => exact ⟨_, rfl, hs.request fun _ hu => hu.answerTriggerCapture⟩
  | enableCapture _ _ => exact ⟨_, rfl, hs.request fun _ hu => hu.answerEnableCapture⟩
  | disableCapture _ _ => exact ⟨_, rfl, hs.request fun _ hu => hu.answerDisableCapture⟩
  | controlFrameDiscarded _ => exact ⟨_, rfl, hs.characters⟩
  | unknownRequest _ _ _ => exact ⟨_, rfl, hs.request fun _ hu => hu.judge⟩
  | replySent => exact ⟨_, rfl, hs.replyDone⟩
  | readSetting _ _ => exact ⟨_, rfl, hs.request fun _ hu => hu.answerReadSetting⟩
  | writeSetting _ _ => exact ⟨_, rfl, hs.request fun _ hu => hu.answerWriteSetting⟩
  | storeSettings _ _ => exact ⟨_, rfl, hs.request fun _ hu => hu.withLength (.answerIte hu hu.same)⟩
  | storeComplete => exact ⟨_, rfl, hs.storeDone⟩
  | loadDefaults _ _ => exact ⟨_, rfl, hs.request fun _ hu => hu.answerLoadDefaults⟩
  | controlFrameAbandoned _ _ => exact ⟨_, rfl, hs.characters.abandon⟩
  | idleSymbolReceived _ => exact ⟨_, rfl, hs.setPort⟩

/-- Settles O6: a feeder sequence writes the role with every move, and nothing else in the part writes a role or a
feeder's state. -/
theorem rolesKept : Obligations.RolesKept := by
  intro s t h hs
  rw [← rolesHold_iff] at h ⊢
  unfold step at hs
  split at hs
  · cases hs
    exact h
  · rename_i c rest _
    obtain ⟨u, hu, hr⟩ := exec_rolesHold c { s with pending := rest } h.same
    rw [hu] at hs
    cases hs
    exact hr

end Sys2Proof.Proofs
end

section
/-! The section coordinator (chapter 3): the feeding condition and its re-evaluation (R47, R48), what this end reports of a
section (R49), and the role elected at the end of a dead time (R53). -/
namespace Sys2Proof.Proofs

open Sys2Proof Sys2Proof.Machine Sys2Proof.Laws

-- ===================================================================== the feeding condition (R47, R48)

/-- A section has a partner exactly where it names an enabled entry (R40). -/
theorem partnerOf_iff (s : State) (k : Fin 6) (j : Fin 4) :
    s.partnerOf k = some j ↔ s.cfg.sections[k].partner = some j ∧ s.cfg.partners[j].enabled = true := by
  unfold State.partnerOf
  cases s.cfg.sections[k].partner with
  | none => simp
  | some i =>
    by_cases he : s.cfg.partners[i].enabled = true
    · simp only [he, if_true, Option.some.injEq]
      exact ⟨fun h => ⟨h, h ▸ he⟩, fun h => h.1⟩
    · simp only [if_neg he, Option.some.injEq]
      exact ⟨fun h => (by cases h), fun ⟨h, h'⟩ => (he (h ▸ h')).elim⟩

theorem feedsSection_iff (m : Option Mode) (b : Bool) :
    feedsSection m b = true ↔ m = some .normal ∨ (m = some .reduced ∧ b = false) := by simp [feedsSection]

/-- The four conditions of R47. -/
theorem fedDouble_iff (s : State) (k : Fin 6) :
    s.fedDouble k = true ↔ ∃ j, s.partnerOf k = some j ∧ s.link[j].up = true ∧
      (s.link[j].mode = some .normal ∨ (s.link[j].mode = some .reduced ∧ s.cfg.sections[k].bOnReduced = false)) ∧
      s.sec[k].summary = .closed := by
  unfold State.fedDouble
  cases s.partnerOf k with
  | none => simp
  | some j => simp only [Bool.and_eq_true, feedsSection_iff, beq_iff_eq, Option.some.injEq, exists_eq_left', and_assoc]

/-- A re-evaluation that finds a change flips the condition and logs the group it now stands for. -/
theorem reevaluate_changed (k : Fin 6) (s : State) (h : s.fedDouble k ≠ s.sec[k].double) :
    s.reevaluate k = { s with
      sec := s.sec.set k { s.sec[k] with double := !s.sec[k].double }
      events := pushEvent s.events
        (s.event .sco (k.val + 1) .groupChange (BitVec.ofNat 16 (k.val + 1))
          (if s.sec[k].double = true then 1 else 0) .none) } := by
  have hflip : s.fedDouble k = !s.sec[k].double := Bool.eq_not.2 h
  unfold State.reevaluate
  rw [if_neg h, hflip]
  cases s.sec[k].double <;> rfl

/-- Re-evaluation records the condition. -/
theorem reevaluate_double (k : Fin 6) (s : State) : (s.reevaluate k).sec[k].double = s.fedDouble k := by
  by_cases h : s.fedDouble k = s.sec[k].double
  · rw [reevaluate_same k s h, h]
  · rw [reevaluate_changed k s h]
    exact (congrArg Section.double (set_same ..)).trans (Bool.eq_not.2 h).symm

/-- Settles O28: the condition is fedDouble, and re-evaluation records it. -/
theorem feedingConditionReevaluated : Obligations.FeedingConditionReevaluated := by
  intro k s
  have hd := reevaluate_double k s
  refine ⟨?_, rfl, fun h => reevaluate_same k s (hd.symm.trans h), fun h => reevaluate_changed k s (hd ▸ h)⟩
  simp only [hd, fedDouble_iff, partnerOf_iff, and_assoc]

-- ===================================================================== what this end reports (R49)

/-- The summary sent, by the feeder's state. -/
theorem summary_iff (st : FState) :
    (st.summary = .closed ↔ st = .closed) ∧
    (st.summary = .open ↔ (st = .closing ∨ st = .open ∨ st = .opening ∨ st = .deadTime)) ∧
    (st.summary = .testing ↔ st = .lineTest) ∧ (st.summary = .waiting ↔ st = .waitPartner) ∧
    (st.summary = .locked ↔ (st = .lockedOut ∨ st = .blocked)) := by
  cases st <;> simp [FState.summary]

/-- The origin sent: CHANNEL and STATION go as MANUAL. -/
theorem sent_iff (o : Origin) :
    (o.sent = .own ↔ o = .own) ∧ (o.sent = .intertrip ↔ o = .intertrip) ∧
    (o.sent = .manual ↔ (o = .manual ∨ o = .channel ∨ o = .station)) ∧ (o.sent = .none ↔ o = .none) := by
  cases o <;> simp [Origin.sent]

/-- Settles O29: the entry's fields, by the feeder's state and origin. -/
theorem sectionEntryReportsFeeder : Obligations.SectionEntryReportsFeeder := by
  intro k s
  obtain ⟨hclosed, hopen, htesting, hwaiting, hlocked⟩ := summary_iff s.feeder[k].state
  exact ⟨rfl, rfl, beq_iff_eq, hclosed, hopen, htesting, hwaiting, hlocked, sent_iff s.feeder[k].origin⟩

-- ===================================================================== the end of a dead time (R53, R72)

theorem partnerUp_iff (s : State) (k : Fin 6) :
    s.partnerUp k = true ↔ ∃ j, s.partnerOf k = some j ∧ s.link[j].up = true := by
  unfold State.partnerUp
  cases s.partnerOf k <;> simp

/-- A partner whose link is UP has not lost it. -/
theorem partnerDown_of_up {s : State} {k : Fin 6} (h : s.partnerUp k = true) : s.partnerDown k = false := by
  unfold State.partnerUp at h
  unfold State.partnerDown
  cases hp : s.partnerOf k with
  | none => rfl
  | some j =>
    rw [hp] at h
    exact Bool.not_eq_false' .. ▸ h

theorem partnerLower_iff (s : State) (k : Fin 6) (j : Fin 4) (hj : s.partnerOf k = some j) :
    s.partnerLower k = true ↔ ∃ a, s.sts.address = some a ∧ s.cfg.partners[j].address < a.toNat := by
  unfold State.partnerLower
  rw [((partnerOf_iff s k j).1 hj).1]
  cases s.sts.address <;> simp

/-- This end follows a partner whose link is UP and that tests, or that opened by its own trip and has the lower
address; otherwise it leads. -/
theorem elect_follower_iff (s : State) (k : Fin 6) :
    s.elect k = .follower ↔ ∃ j, s.partnerOf k = some j ∧ s.link[j].up = true ∧
      (s.sec[k].summary = .testing ∨ (s.sec[k].summary = .open ∧ s.sec[k].porigin = .own ∧
        ∃ a, s.sts.address = some a ∧ s.cfg.partners[j].address < a.toNat)) := by
  have he : s.elect k = .follower ↔ s.partnerUp k = true ∧ (s.sec[k].summary = .testing ∨
      (s.sec[k].summary = .open ∧ s.sec[k].porigin = .own ∧ s.partnerLower k = true)) := by
    unfold State.elect
    generalize s.sec[k] = c
    cases s.partnerUp k with
    | false => simp
    | true =>
      by_cases ht : c.summary = .testing
      · simp [ht]
      · simp [ht]
  rw [he, partnerUp_iff]
  constructor
  · rintro ⟨⟨j, hj, hup⟩, h⟩
    rw [partnerLower_iff s k j hj] at h
    exact ⟨j, hj, hup, h⟩
  · rintro ⟨j, hj, hup, h⟩
    rw [← partnerLower_iff s k j hj] at h
    exact ⟨⟨j, hj, hup⟩, h⟩

/-- A discriminator whose feeder stays outside CLOSING and CLOSED is left alone. -/
theorem onMove_inactive (d : Disc) {old new : FState} (h : old.active = false) (hn : new.active = false) :
    d.onMove old new = d := by
  have hold : old ≠ .closing := by
    rintro rfl
    cases h
  simp [Disc.onMove, h, hn, hold]

/-- A move of a feeder between states outside CLOSING and CLOSED. -/
theorem moveFeeder_inactive (k : Fin 6) (f : Feeder) (st : FState) (n : Option Nat) (s : State)
    (h : s.feeder[k].state.active = false) (hn : st.active = false) :
    s.moveFeeder k f st n = { s with
      feeder := s.feeder.set k (f.take st n), sec := s.sec.set k { s.sec[k] with role := st.role } } := by
  have hset : s.disc.set k s.disc[k] = s.disc := Vector.set_getElem_self _
  rw [moveFeeder_spec, onMove_inactive _ h hn, hset]

/-- A line test as leader begins in SETTLE where the line can be tested, and stands where no lower station tests it. -/
theorem enterLineTest_settle (k : Fin 6) (s : State) (hb : s.bfb[k].reported = false)
    (hl : s.feeder[k].lost = false) (hu : s.ulFailed k = false) (hsum : s.sec[k].summary ≠ .testing) :
    s.enterLineTest k false =
      s.moveFeeder k { s.feeder[k] with invalid := 0, phase := some .settle } .lineTest
        (some (s.general k).tLtSettle) := by
  have hbegin : s.beginTest k false = s.moveFeeder k { s.feeder[k] with invalid := 0, phase := some .settle } .lineTest
      (some (s.general k).tLtSettle) := by
    unfold State.beginTest
    refine if_neg ?_
    rw [hu, show s.bfbClosed k = false from hb, hl]
    exact Bool.false_ne_true
  have hstay : (s.beginTest k false).mustAbandon k = false := by
    have hs : (s.beginTest k false).sec[k].summary = s.sec[k].summary := by
      obtain ⟨_, _, hown⟩ := (FeederRun.refl (k := k) (s := s)).beginTest (b := false).own
      rw [hown]
    simp only [State.mustAbandon, hs, beq_false_of_ne hsum, Bool.and_false, Bool.false_and]
  unfold State.enterLineTest State.abandonTest
  rw [hstay, hbegin]
  rfl

/-- Settles O20: the role elected is follower exactly under R53's conditions, and either role is one move. -/
theorem deadTimeElectsRole : Obligations.DeadTimeElectsRole := by
  intro k s hq hst ht hlive hsum
  have hact : s.feeder[k].state.active = false := by rw [hst]; rfl
  have hdead : s.deadExpiry k = if s.elect k = .follower then s.enterWait k else s.enterLineTest k false := by
    unfold State.deadExpiry
    rw [(timing_iff s k .deadTime).2 ⟨hst, ht⟩, hlive]
    rfl
  have helect := elect_follower_iff s k
  simp only [partnerOf_iff, and_assoc] at helect
  refine ⟨fun hf => next_settled hq ?follows, fun hf hb hl hu => next_settled hq ?leads⟩
  case follows =>
    obtain ⟨j, hj, he, hup, _⟩ := id hf
    have hkeep : (s.moveFeeder k s.feeder[k] .waitPartner (some ((s.general k).tWait * 1000))).partnerDown k = false :=
      partnerDown_of_up (s := s) ((partnerUp_iff s k).2 ⟨j, (partnerOf_iff s k j).2 ⟨hj, he⟩, hup⟩)
    have hwait : s.enterWait k = s.moveFeeder k s.feeder[k] .waitPartner (some ((s.general k).tWait * 1000)) := by
      unfold State.enterWait
      exact if_neg (Bool.eq_false_iff.1 hkeep)
    rw [hdead, if_pos (helect.2 hf), hwait, moveFeeder_inactive k _ _ _ s hact rfl]
    simp [Feeder.take, FState.keepsManual, FState.role]
  case leads =>
    have hnt : s.sec[k].summary ≠ .testing := fun h => by
      obtain ⟨j, hj, he, hup⟩ := hsum h
      exact hf ⟨j, hj, he, hup, .inl h⟩
    rw [hdead, if_neg (mt helect.1 hf), enterLineTest_settle k s hb hl (beq_false_of_ne hu) hnt,
      moveFeeder_inactive k _ _ _ s hact rfl]
    simp [Feeder.take, FState.keepsManual, FState.role]

end Sys2Proof.Proofs
end

section
/-! The transmit queues of the ports (R92, R95, R96, R108): a STATUS telegram joins its queue, a transmission begins and
ends. -/
namespace Sys2Proof.Proofs

open Sys2Proof Sys2Proof.Machine Sys2Proof.Laws

-- ===================================================================== a transmission begins (R92, R96, R108)

/-- A port whose head of queue x goes into transmission, with rest left. -/
def transmitting (x : Queued) (rest : List Queued) (r : PortRec) : PortRec :=
  { r with queue := rest, sending := some { item := x, afterResync := r.resyncDue }, resyncDue := false }

theorem startNext_busy (now : Time) (r : PortRec) (h : r.sending ≠ none) : r.startNext now = r := by
  unfold PortRec.startNext
  split
  next hs _ => exact absurd hs h
  next => rfl

theorem startNext_empty (now : Time) (r : PortRec) (h : r.queue = []) : r.startNext now = r := by
  unfold PortRec.startNext
  split
  next hq => rw [h] at hq; cases hq
  next => rfl

/-- On an idle line the head is sent; only a TEST telegram of this station is counted. -/
theorem startNext_idle (now : Time) (x : Queued) (rest : List Queued) (r : PortRec) (hs : r.sending = none)
    (hq : r.queue = x :: rest) :
    ((x.own = false ∨ ∃ m g es, x.telegram.body = .status m g es) → r.startNext now = transmitting x rest r) ∧
    (∀ pl, x.own = true → x.telegram.body = .test pl → r.startNext now = { transmitting x rest r with
      sent := r.sent + 1
      outstanding := r.outstanding ++ [{ seq := x.telegram.seq, payload := pl, sentAt := now }] }) := by
  unfold PortRec.startNext
  rw [hs, hq]
  dsimp only
  refine ⟨?_, fun pl ho hb => ?_⟩
  · rintro (ho | ⟨m, g, es, hb⟩)
    · rw [ho]
      rfl
    · rw [hb]
      cases x.own <;> rfl
  · rw [ho, hb]
    rfl

-- ===================================================================== a telegram joins its queue (R96)

/-- The oldest FORWARDED telegram leaves a queue. -/
theorem dropForwarded_append (a b : List Queued) (y : Queued) (ha : ∀ z ∈ a, z.own = true) (hy : y.own = false) :
    dropForwarded (a ++ y :: b) = some (a ++ b) := by
  induction a with
  | nil => simp [dropForwarded, hy]
  | cons z a ih =>
    obtain ⟨hz, ha⟩ := List.forall_mem_cons.1 ha
    simp [dropForwarded, hz, ih ha]

/-- A queue without FORWARDED telegrams gives none up. -/
theorem dropForwarded_own (q : List Queued) (h : ∀ z ∈ q, z.own = true) : dropForwarded q = none := by
  induction q with
  | nil => rfl
  | cons z q ih =>
    obtain ⟨hz, hq⟩ := List.forall_mem_cons.1 h
    simp [dropForwarded, hz, ih hq]

section join

variable (x : Queued) (r : PortRec) (hx : x.own = true)
include hx

/-- It takes the place of the OWN telegrams for its destination. -/
theorem join_replaces (h : r.queue.any (replaces x.telegram) = true) :
    r.join x = { r with queue := r.queue.filter (fun y => !replaces x.telegram y) ++ [x] } := by
  simp [PortRec.join, hx, h]

/-- Where it replaces none it goes to the tail of a queue with room. -/
theorem join_room (h : r.queue.any (replaces x.telegram) = false) (hl : r.queue.length < 4) :
    r.join x = { r with queue := r.queue ++ [x] } := by
  simp [PortRec.join, hx, h, hl]

/-- A full queue gives up its oldest FORWARDED telegram for it, or drops it. -/
theorem join_full (h : r.queue.any (replaces x.telegram) = false) (hl : 4 ≤ r.queue.length) :
    (∀ q, dropForwarded r.queue = some q → r.join x = { r with queue := q ++ [x], dropped := r.dropped + 1 }) ∧
    (dropForwarded r.queue = none → r.join x = { r with dropped := r.dropped + 1 }) := by
  have hn : ¬ r.queue.length < 4 := Nat.not_lt.2 hl
  refine ⟨fun q hq => ?_, fun hq => ?_⟩ <;> simp [PortRec.join, hx, h, hn, hq]

/-- An own STATUS telegram on an idle line with nothing queued is in transmission at once (log 19). -/
theorem join_sent_at_once (now : Time) (hb : ∃ m g es, x.telegram.body = .status m g es) (hs : r.sending = none)
    (hq : r.queue = []) : (r.join x).startNext now = transmitting x [] r := by
  have hjoin := join_room x r hx (by rw [hq]; rfl) (by rw [hq]; decide)
  rw [hjoin]
  exact (startNext_idle now x [] { r with queue := r.queue ++ [x] } hs (by rw [hq]; rfl)).1 (.inr hb)

end join

-- ===================================================================== a telegram period (R95)

theorem sendsTo_iff (s : State) (j : Fin 4) :
    s.sendsTo j = true ↔ s.cfg.partners[j].enabled = true ∧ (s.port s.cfg.partners[j].port).disabled = false ∧
      (s.port s.cfg.partners[j].port).state ≠ .testing := by
  simp [State.sendsTo, and_assoc]

/-- The STATUS telegram of an entry takes the next sequence number and joins the queue of the entry's port. -/
theorem sendStatus_sends (j : Fin 4) (s : State) (h : s.sendsTo j = true) :
    s.sendStatus j = (s.setLink j { s.link[j] with nextSeq := s.link[j].nextSeq + 1 }).setPort s.cfg.partners[j].port
      (((s.port s.cfg.partners[j].port).join { own := true, telegram := s.statusFor j }).startNext s.elapsed) := by
  unfold State.sendStatus
  rw [if_pos h, queueOn_spec, State.setLink_port]
  rfl

/-- A transmission ends; the queue is first emptied where that is due. -/
theorem sendingDone_emptied (now : Time) (r : PortRec) (h : r.emptyDue = true) :
    r.sendingDone now = { r with
      sending := none, queue := [], emptyDue := false
      dropped := r.dropped + BitVec.ofNat 32 ((r.queue.filter fun x => !x.own).length) } := by
  unfold PortRec.sendingDone
  rw [h]
  exact startNext_empty _ _ rfl

theorem sendingDone_next (now : Time) (r : PortRec) (h : r.emptyDue = false) :
    r.sendingDone now = ({ r with sending := none } : PortRec).startNext now := by
  unfold PortRec.sendingDone
  rw [h]
  rfl

/-- Settles O35: the telegrams built by sendStatus join and start by the lemmas above; the end of a transmission is
sendingDone. -/
theorem telegramsBuiltAndSent : Obligations.TelegramsBuiltAndSent := by
  refine ⟨fun s hq => ⟨fun hc => next_settled hq ?_, fun hc => next_settled hq ?_, fun j => ⟨fun hoff => ?_,
    fun he hd ht => ?_⟩⟩, fun p s hq => ⟨fun hdue => next_settled hq ?_, fun hdue hempty => next_settled hq ?_,
    fun x rest hdue hx => ?_⟩⟩
  · exact if_neg (Bool.eq_false_iff.1 hc)
  · exact if_pos hc
  · refine if_neg fun h => ?_
    obtain ⟨he, hd, ht⟩ := (sendsTo_iff s j).1 h
    obtain he' | hd' | ht' := hoff
    · exact absurd he (Bool.eq_false_iff.1 he')
    · exact absurd hd' (Bool.eq_false_iff.1 hd)
    · exact ht ht'
  · have hsend := sendStatus_sends j s ((sendsTo_iff s j).2 ⟨he, hd, ht⟩)
    have hsame : replaces (s.statusFor j) =
        fun y => y.own && y.telegram.dest == BitVec.ofNat 8 s.cfg.partners[j].address := rfl
    dsimp only
    generalize s.port s.cfg.partners[j].port = r at hsend ⊢
    refine ⟨fun hempty hidle => ?idle, fun hbusy => ⟨fun hany => ?replaces, fun hany hroom => ?room, fun hany hfull =>
      ⟨fun a b y hab ha hy => ?gives, fun hown => ?drops⟩⟩⟩
    case idle =>
      rw [hsend, join_sent_at_once _ r rfl _ ⟨_, _, _, rfl⟩ hidle hempty, transmitting, ← hempty]
      rfl
    case replaces =>
      rw [hsend, join_replaces _ r rfl (hsame ▸ hany), startNext_busy]
      · rfl
      · exact hbusy
    case room =>
      rw [hsend, join_room _ r rfl (hsame ▸ hany) hroom, startNext_busy]
      · rfl
      · exact hbusy
    case gives =>
      rw [hsend, (join_full _ r rfl (hsame ▸ hany) hfull).1 _ (hab ▸ dropForwarded_append a b y ha hy),
        startNext_busy]
      · rfl
      · exact hbusy
    case drops =>
      rw [hsend, (join_full _ r rfl (hsame ▸ hany) hfull).2 (dropForwarded_own _ hown), startNext_busy]
      exact hbusy
  · exact congrArg (s.setPort p) (sendingDone_emptied _ _ hdue)
  · exact congrArg (s.setPort p) ((sendingDone_next _ _ hdue).trans (startNext_empty _ _ hempty))
  · have hnext := sendingDone_next s.elapsed _ hdue
    obtain ⟨hplain, htest⟩ := startNext_idle s.elapsed x rest { s.port p with sending := none } rfl hx
    exact ⟨fun m g es hb => next_settled hq (congrArg (s.setPort p) (hnext.trans (hplain (.inr ⟨m, g, es, hb⟩)))),
      fun ho => next_settled hq (congrArg (s.setPort p) (hnext.trans (hplain (.inl ho)))),
      fun pl ho hb => next_settled hq (congrArg (s.setPort p) (hnext.trans (htest pl ho hb)))⟩

end Sys2Proof.Proofs
end

section
/-! One event handed to every feeder sequence in turn (log 32), and the entry to SAFE by a frame fault (R51, R83, R127,
R143, R144, R147, R186). -/
namespace Sys2Proof.Proofs

open Sys2Proof Sys2Proof.Machine Sys2Proof.Laws

-- ===================================================================== handed to one feeder after another

/-- The records of feeder j are as they were. -/
structure SameFeeder (j : Fin 6) (s t : State) : Prop where
  feeder : t.feeder[j] = s.feeder[j]
  disc : t.disc[j] = s.disc[j]
  sec : t.sec[j] = s.sec[j]

theorem SameFeeder.refl (j : Fin 6) (s : State) : SameFeeder j s s := ⟨rfl, rfl, rfl⟩

theorem SameFeeder.trans {j : Fin 6} {s t u : State} (h : SameFeeder j s t) (h' : SameFeeder j t u) :
    SameFeeder j s u := ⟨h'.feeder.trans h.feeder, h'.disc.trans h.disc, h'.sec.trans h.sec⟩

theorem FeederRun.sameFeeder {k j : Fin 6} {s t : State} (h : FeederRun k s t) (hj : j ≠ k) : SameFeeder j s t :=
  ⟨(h.other hj).1, (h.other hj).2.1, (h.other hj).2.2⟩

/-- Handed to one feeder after another, an event finds each with its records as they were, in a state R that every
turn keeps, and no later turn touches what it did there. -/
theorem foldl_feeders {R : State → Prop} {f : State → Fin 6 → State}
    (hother : ∀ (k j : Fin 6) (u : State), j ≠ k → SameFeeder j u (f u k)) (hR : ∀ k u, R u → R (f u k))
    (l : List (Fin 6)) (hl : l.Nodup) (s : State) (hs : R s) :
    R (l.foldl f s) ∧ (∀ k ∉ l, SameFeeder k s (l.foldl f s)) ∧
      ∀ k ∈ l, ∃ u, R u ∧ SameFeeder k s u ∧ SameFeeder k (f u k) (l.foldl f s) := by
  induction l generalizing s with
  | nil => exact ⟨hs, fun k _ => .refl k s, fun k hk => absurd hk List.not_mem_nil⟩
  | cons a l ih =>
    obtain ⟨hal, hl⟩ := List.nodup_cons.1 hl
    obtain ⟨hfold, hout, hin⟩ := ih hl (f s a) (hR a s hs)
    refine ⟨hfold, fun k hk => ?_, fun k hk => ?_⟩
    · obtain ⟨hka, hkl⟩ := List.ne_and_not_mem_of_not_mem_cons hk
      exact (hother a k s hka).trans (hout k hkl)
    · by_cases hka : k = a
      · rw [hka]
        exact ⟨s, hs, .refl a s, hout a hal⟩
      · obtain ⟨u, hu, hsame, hlater⟩ := hin k ((List.mem_cons.1 hk).resolve_left hka)
        exact ⟨u, hu, (hother a k s hka).trans hsame, hlater⟩

/-- The same for all six. -/
theorem foldl_feeders6 {R : State → Prop} {f : State → Fin 6 → State}
    (hother : ∀ (k j : Fin 6) (u : State), j ≠ k → SameFeeder j u (f u k)) (hR : ∀ k u, R u → R (f u k))
    (s : State) (hs : R s) (k : Fin 6) :
    ∃ u, R u ∧ SameFeeder k s u ∧ SameFeeder k (f u k) (feeders6.foldl f s) :=
  (foldl_feeders hother hR feeders6 feeders6_nodup s hs).2.2 k (mem_feeders6 k)

-- ===================================================================== triggers and the rest of the state (R186)

/-- s and t agree in all that a trigger looks at. -/
structure SameCapture (s t : State) : Prop where
  cap : t.cap = s.cap
  aqu : t.aqu = s.aqu
  stationTime : t.stationTime = s.stationTime
  unset : t.unset = s.unset

theorem SameCapture.refl (s : State) : SameCapture s s := ⟨rfl, rfl, rfl, rfl⟩

theorem SameCapture.trans {s t u : State} (h : SameCapture s t) (h' : SameCapture t u) : SameCapture s u :=
  ⟨h'.cap.trans h.cap, h'.aqu.trans h.aqu, h'.stationTime.trans h.stationTime, h'.unset.trans h.unset⟩

theorem SameCapture.symm {s t : State} (h : SameCapture s t) : SameCapture t s :=
  ⟨h.cap.symm, h.aqu.symm, h.stationTime.symm, h.unset.symm⟩

/-- A trigger is answered alike, and leaves the store alike. -/
theorem SameCapture.trigger {s t : State} (h : SameCapture s t) (n : Nat) :
    SameCapture (s.trigger n).1 (t.trigger n).1 ∧ (t.trigger n).2 = (s.trigger n).2 := by
  have hcap : (t.trigger n).1.cap = (s.trigger n).1.cap ∧ (t.trigger n).2 = (s.trigger n).2 := by
    obtain ⟨hc, ha, ht, hu⟩ := h
    unfold State.trigger
    rw [hc]
    split
    · exact ⟨hc, rfl⟩
    · split
      · exact ⟨rfl, rfl⟩
      · simp only [State.startRecord, State.joinRecord, State.triggerEntry, State.lastStored, ha, ht, hu, and_self]
  obtain ⟨c, hs⟩ := trigger_spec n s
  obtain ⟨d, ht⟩ := trigger_spec n t
  refine ⟨⟨hcap.1, ?_, ?_, ?_⟩, hcap.2⟩ <;> rw [hs, ht]
  · exact h.aqu
  · exact h.stationTime
  · exact h.unset

theorem SameCapture.triggers {s t : State} (h : SameCapture s t) (l : List Nat) :
    SameCapture (l.foldl (fun s n => (s.trigger n).1) s) (l.foldl (fun s n => (s.trigger n).1) t) := by
  induction l generalizing s t with
  | nil => exact h
  | cons n l ih => exact ih (h.trigger n).1

-- ===================================================================== the station trip (R83)

/-- The station trip by the state it finds: a trip, BLOCKED, or another destination. -/
theorem stationTripped_feeder (k : Fin 6) (s : State) :
    (s.feeder[k].state = .closed ∨ s.feeder[k].state = .closing →
      (s.stationTripped k).feeder[k].state = .opening ∧ (s.stationTripped k).feeder[k].origin = .station ∧
      (s.stationTripped k).feeder[k].dest = some .blocked ∧ (s.stationTripped k).feeder[k].blockCause = .station) ∧
    (s.feeder[k].state = .open ∨ s.feeder[k].state = .deadTime ∨ s.feeder[k].state = .waitPartner ∨
        s.feeder[k].state = .lineTest →
      (s.stationTripped k).feeder[k].state = .blocked ∧ (s.stationTripped k).feeder[k].blockCause = .station) ∧
    (s.feeder[k].state = .opening → s.feeder[k].dest ≠ some .lockedOut →
      (s.stationTripped k).feeder[k] = { s.feeder[k] with dest := some .blocked, blockCause := .station }) ∧
    (s.feeder[k].state = .lockedOut ∨ s.feeder[k].state = .blocked ∨
        (s.feeder[k].state = .opening ∧ s.feeder[k].dest = some .lockedOut) →
      (s.stationTripped k).feeder[k] = s.feeder[k]) := by
  have hblocked (u : State) : (u.enterBlocked k .station).feeder[k].state = .blocked ∧
      (u.enterBlocked k .station).feeder[k].blockCause = .station := by
    rw [enterBlocked_spec]
    dsimp only
    rw [set_same]
    exact ⟨rfl, rfl⟩
  unfold State.stationTripped
  split
  case h_1 hst | h_2 hst =>
    rw [openBreaker_trigger, hst]
    dsimp only
    rw [set_same]
    simp
  case h_3 hst =>
    by_cases hd : s.feeder[k].dest = some .lockedOut
    · simp [-Fin.getElem_fin, hst, hd]
    · rw [if_neg hd, State.setFeeder_self]
      simp [-Fin.getElem_fin, hst, hd]
  case h_4 hst | h_5 hst | h_6 hst | h_7 hst => simp [-Fin.getElem_fin, hst, hblocked]
  case h_8 hst | h_9 hst => simp [-Fin.getElem_fin, hst]

/-- A station trip hands a trigger where it opens the breaker, and nothing else to the capture store. -/
theorem stationTripped_capture (k : Fin 6) (s : State) :
    (s.feeder[k].state.active = true → SameCapture (s.trigger (srcTrip k)).1 (s.stationTripped k)) ∧
    (s.feeder[k].state.active = false → SameCapture s (s.stationTripped k)) := by
  have hblocked (u : State) : SameCapture u (u.enterBlocked k .station) := by
    rw [enterBlocked_spec]
    exact ⟨rfl, rfl, rfl, rfl⟩
  have hcancel : SameCapture s (s.cancelTest k) := by
    unfold State.cancelTest
    split
    · rw [testResult_spec]
      exact ⟨rfl, rfl, rfl, rfl⟩
    · exact .refl s
  unfold State.stationTripped
  split
  case h_1 hst | h_2 hst =>
    obtain ⟨c, hc⟩ := trigger_spec (srcTrip k) s
    rw [openBreaker_trigger, hst, hc]
    exact ⟨fun _ => ⟨rfl, rfl, rfl, rfl⟩, fun h => by cases h⟩
  case h_3 hst =>
    rw [hst]
    refine ⟨fun h => (by cases h), fun _ => ?_⟩
    split
    · exact .refl s
    · exact ⟨rfl, rfl, rfl, rfl⟩
  case h_4 hst | h_5 hst | h_6 hst =>
    rw [hst]
    exact ⟨fun h => (by cases h), fun _ => hblocked s⟩
  case h_7 hst =>
    rw [hst]
    exact ⟨fun h => (by cases h), fun _ => hcancel.trans (hblocked _)⟩
  case h_8 hst | h_9 hst =>
    rw [hst]
    exact ⟨fun h => (by cases h), fun _ => .refl s⟩

/-- After START the station trip acts at once (R83). -/
theorem stationTrip_complete (k : Fin 6) (s : State) (h : s.sts.complete = true) :
    s.stationTrip k = s.stationTripped k := if_pos h

/-- The trips of one event are handed to the capture store by ascending feeder (log 32). -/
theorem tripAll_capture (l : List (Fin 6)) (hl : l.Nodup) (s : State) (h : s.sts.complete = true) :
    SameCapture
      (((l.filter fun j => s.feeder[j].state == .closed || s.feeder[j].state == .closing).map srcTrip).foldl
        (fun s n => (s.trigger n).1) s)
      (l.foldl (fun s k => s.stationTrip k) s) := by
  have hact (st : FState) : (st == .closed || st == .closing) = st.active := by cases st <;> rfl
  simp only [hact]
  induction l generalizing s with
  | nil => exact .refl s
  | cons a l ih =>
    obtain ⟨hal, hl⟩ := List.nodup_cons.1 hl
    obtain ⟨htrip, hstay⟩ := stationTripped_capture a s
    rw [← stationTrip_complete a s h] at htrip hstay
    have hrest := ih hl (s.stationTrip a) (by rw [((FeederActs.refl s).stationTrip (k := a)).sts, h])
    have hfilter : (l.filter fun j => (s.stationTrip a).feeder[j].state.active) =
        l.filter fun j => s.feeder[j].state.active := by
      refine List.filter_congr fun j hj => ?_
      have hja : j ≠ a := fun e => hal (e ▸ hj)
      rw [((FeederRun.refl (s := s)).stationTrip.sameFeeder hja).feeder]
    rw [hfilter] at hrest
    rw [List.foldl_cons, List.filter_cons]
    split
    next ha => exact ((htrip ha).triggers _).trans hrest
    next ha => exact ((hstay (Bool.eq_false_iff.2 ha)).triggers _).trans hrest

-- ===================================================================== intertrip_out and the groups in SAFE (R51, R127)

theorem setItOut_itOut (k : Fin 6) (c : Nat) (s : State) : (s.setItOut k c).sec[k].itOut = true := by
  rw [setItOut_spec]
  exact congrArg Section.itOut (set_same ..)

theorem setItOut_feeder (k : Fin 6) (c : Nat) (s : State) : (s.setItOut k c).feeder = s.feeder := by
  rw [setItOut_spec]

/-- Every section's intertrip_out is set, and nothing else of the feeders changes. -/
theorem itOutAll_spec (k : Fin 6) (s : State) :
    s.itOutAll.sec[k].itOut = true ∧ s.itOutAll.feeder = s.feeder ∧ s.itOutAll.cap = s.cap := by
  have hrun (k j : Fin 6) (u : State) (hj : j ≠ k) : SameFeeder j u (u.setItOut k itStation) :=
    (FeederRun.refl.setItOut).sameFeeder hj
  obtain ⟨u, _, _, hlater⟩ := foldl_feeders6 (R := fun _ => True) hrun (fun _ _ h => h) s trivial k
  obtain ⟨⟨hf, hc⟩, _⟩ := foldl_feeders (R := fun u => u.feeder = s.feeder ∧ u.cap = s.cap) hrun
    (fun k u h => by rw [setItOut_spec]; exact h) feeders6 feeders6_nodup s ⟨rfl, rfl⟩
  exact ⟨(congrArg Section.itOut hlater.sec).trans (setItOut_itOut k itStation u), hf, hc⟩

/-- In SAFE a group that fired, or waited to restart, is OFF; every other stays. -/
theorem groupOnMode_safe_group (g h : Fin 2) (s : State) :
    (s.groupOnMode .safe g).group[h] =
      if g = h ∧ (s.group[h].state.fires = true ∨ s.group[h].state = .blocked) then s.group[h].take .off
      else s.group[h] := by
  have hmove : s.groupOnMode .safe g =
      if s.group[g].state.fires = true ∨ s.group[g].state = .blocked then s.moveGroup g .off .safe .none else s := rfl
  rw [hmove]
  by_cases hf : s.group[g].state.fires = true ∨ s.group[g].state = .blocked
  · rw [if_pos hf, moveGroup_group]
    by_cases hg : g = h
    · rw [← hg, set_same, if_pos ⟨rfl, hf⟩]
    · rw [set_other _ _ (Ne.symm hg), if_neg fun e => hg e.1]
  · rw [if_neg hf, if_neg]
    rintro ⟨rfl, h'⟩
    exact hf h'

theorem groupsOnMode_safe_group (g : Fin 2) (s : State) :
    (s.groupsOnMode .safe).group[g] =
      if s.group[g].state.fires = true ∨ s.group[g].state = .blocked then s.group[g].take .off else s.group[g] := by
  have h01 : (0 : Fin 2) ≠ 1 := by decide
  simp only [State.groupsOnMode, groups2, List.foldl_cons, List.foldl_nil, groupOnMode_safe_group]
  obtain rfl | rfl : g = 0 ∨ g = 1 := by
    revert g
    decide
  · simp only [h01.symm, false_and, if_false, true_and]
  · simp only [h01, false_and, if_false, true_and]

-- ===================================================================== the frame fault (R147)

/-- s with the frame fault taken up and its cause present: what the entry to SAFE finds. -/
def frameFaulted (s : State) : State :=
  { s with
    sts := { s.sts with ffDue := false, ffCount := 0, frameFault := true }
    events := pushEvent (pushEvent s.events
      (s.event .sts 0 .frameFault (word s.sts.ffValue) (uword s.sts.ffCount) .none))
      (s.event .sts 0 .safeCause (safeCauseValue .frameFault) (uword causePresentCode) .none) }

theorem frameFaultTaken_eq (s : State) (hd : s.sts.ffDue = true) (hf : s.sts.frameFault = false)
    (hm : s.sts.mode ≠ .safe) : s.frameFaultTaken = (frameFaulted s).enterSafe := by
  unfold State.frameFaultTaken State.causePresent
  dsimp only
  rw [if_pos hd, if_neg (by exact Bool.eq_false_iff.1 hf), if_neg (by exact hm)]
  rfl

-- ===================================================================== the entry to SAFE (R51, R83, R144, R186)

/-- A trigger handed, and an event that carries its answer. -/
theorem trigger_log (n : Nat) (b : Block) (i : Nat) (e : EventKind) (v1 v2 : Word16) (s : State) :
    (s.trigger n).1.log b i e v1 v2 (s.trigger n).2 = { s with
      cap := (s.trigger n).1.cap, events := pushEvent s.events (s.event b i e v1 v2 (s.trigger n).2) } := by
  obtain ⟨c, hc⟩ := trigger_spec n s
  rw [log_spec, hc]
  rfl

/-- The state at the entry to SAFE after feeders and sections have acted, before the groups do. -/
def safeFeeders (s : State) : State := (s.setSts { s.sts with mode := .safe, run := false }).tripAll.itOutAll

theorem safeFeeders_acts (s : State) :
    FeederActs (s.setSts { s.sts with mode := .safe, run := false }) (safeFeeders s) :=
  (FeederActs.refl _).tripAll.itOutAll

/-- After feeders, sections and groups: the trigger, and STATION_MODE with its answer. -/
theorem enterSafe_eq (s : State) :
    s.enterSafe = { (safeFeeders s).groupsOnMode .safe with
      cap := (((safeFeeders s).groupsOnMode .safe).trigger srcStation).1.cap
      events := pushEvent ((safeFeeders s).groupsOnMode .safe).events
        (((safeFeeders s).groupsOnMode .safe).event .sts 0 .stationMode (uword Mode.safe.code)
          (uword (modeCauseCode .safe)) (((safeFeeders s).groupsOnMode .safe).trigger srcStation).2) } :=
  trigger_log srcStation .sts 0 .stationMode _ _ _

/-- After START each feeder takes the station trip with its records as they were, and intertrip_out is set. -/
theorem enterSafe_feeder (k : Fin 6) (s : State) (hc : s.sts.complete = true) :
    ∃ u : State, u.feeder[k] = s.feeder[k] ∧ s.enterSafe.feeder[k] = (u.stationTripped k).feeder[k] ∧
      s.enterSafe.sec[k].itOut = true := by
  obtain ⟨r, e, hgroups⟩ := groupsOnMode_spec .safe (safeFeeders s)
  have hfeeder : s.enterSafe.feeder = (safeFeeders s).feeder := by rw [enterSafe_eq, hgroups]
  have hsec : s.enterSafe.sec = (safeFeeders s).sec := by rw [enterSafe_eq, hgroups]
  unfold safeFeeders at hfeeder hsec
  generalize hv : s.setSts { s.sts with mode := .safe, run := false } = v at hfeeder hsec
  have hvf : v.feeder = s.feeder := by rw [← hv]; rfl
  have hvc : v.sts.complete = true := by rw [← hv]; exact hc
  obtain ⟨hout, hkeep, _⟩ := itOutAll_spec k v.tripAll
  obtain ⟨u, hu, hsame, hlater⟩ := foldl_feeders6 (R := fun u => u.sts.complete = true)
    (f := fun s k => s.stationTrip k) (fun k j u hj => (FeederRun.refl.stationTrip).sameFeeder hj)
    (fun k u h => by rw [((FeederActs.refl u).stationTrip (k := k)).sts]; exact h) v hvc k
  refine ⟨u, by rw [hsame.feeder, hvf], ?_, by rw [hsec]; exact hout⟩
  rw [hfeeder, hkeep, ← stationTrip_complete k u hu]
  exact hlater.feeder

/-- A group in SAFE (R127). -/
theorem enterSafe_group (g : Fin 2) (s : State) :
    s.enterSafe.group[g] =
      if s.group[g].state.fires = true ∨ s.group[g].state = .blocked then s.group[g].take .off else s.group[g] := by
  have hgroup : (safeFeeders s).group = s.group := (safeFeeders_acts s).group
  rw [← hgroup, ← groupsOnMode_safe_group g (safeFeeders s), enterSafe_eq]

theorem groupsOnMode_capture (m : Mode) (s : State) : SameCapture s (s.groupsOnMode m) := by
  obtain ⟨r, e, hgroups⟩ := groupsOnMode_spec m s
  rw [hgroups]
  exact ⟨rfl, rfl, rfl, rfl⟩

/-- A reaction takes no time: an event is stamped after it as before (R172). -/
theorem Reacts.event {s t : State} (h : Reacts s t) : t.event = s.event := by
  obtain ⟨_, _, _, _, _, _, _, rfl⟩ := h.frame
  rfl

/-- The trips and then the entry to SAFE are handed to the capture store (R186, log 32). -/
theorem enterSafe_capture (s : State) (hc : s.sts.complete = true) :
    let trips := ((feeders6.filter fun j => s.feeder[j].state == .closed || s.feeder[j].state == .closing).map
      srcTrip).foldl (fun s n => (s.trigger n).1) s
    s.enterSafe.cap = (trips.trigger srcStation).1.cap ∧ ∃ q, EventsGrow s.events q ∧
      s.enterSafe.events = pushEvent q (s.event .sts 0 .stationMode (uword Mode.safe.code)
        (uword (modeCauseCode .safe)) (trips.trigger srcStation).2) := by
  intro trips
  have hacts : Reacts (s.setSts { s.sts with mode := .safe, run := false }) ((safeFeeders s).groupsOnMode .safe) :=
    (safeFeeders_acts s).reacts.station (StationActs.refl _).groupsOnMode
  have hsame : SameCapture trips ((safeFeeders s).groupsOnMode .safe) := by
    have hset : SameCapture s (s.setSts { s.sts with mode := .safe, run := false }) := ⟨rfl, rfl, rfl, rfl⟩
    have hout : SameCapture (s.setSts { s.sts with mode := .safe, run := false }).tripAll (safeFeeders s) :=
      have ho : FeederActs (s.setSts { s.sts with mode := .safe, run := false }).tripAll (safeFeeders s) :=
        (FeederActs.refl _).itOutAll
      ⟨(itOutAll_spec 0 _).2.2, ho.reacts.aqu, ho.reacts.stationTime, ho.reacts.unset⟩
    have htrips : SameCapture trips (s.setSts { s.sts with mode := .safe, run := false }).tripAll :=
      (hset.triggers _).trans (tripAll_capture feeders6 feeders6_nodup _ hc)
    exact (htrips.trans hout).trans (groupsOnMode_capture .safe _)
  rw [enterSafe_eq]
  generalize (safeFeeders s).groupsOnMode .safe = u at hacts hsame ⊢
  obtain ⟨hcap, href⟩ := hsame.trigger srcStation
  have hstamp : u.event = s.event := hacts.event
  rw [href, hstamp]
  exact ⟨hcap.cap, u.events, hacts.grow, rfl⟩

/-- Settles O45: each feeder by the station trip it is handed, each group by the mode, the triggers in their order. -/
theorem frameFaultTakesStationSafe : Obligations.FrameFaultTakesStationSafe := by
  intro s hd hf hm hc
  have heq := frameFaultTaken_eq s hd hf hm
  have hsts := enterSafe_sts (frameFaulted s)
  refine ⟨s.frameFaultTaken, rfl, by rw [heq, hsts]; rfl, by rw [heq, hsts]; rfl, by rw [heq, hsts], by rw [heq, hsts],
    fun k => ?feeders, fun g => ?groups, ?capture, ?frame⟩
  case feeders =>
    obtain ⟨u, hu, hk, hout⟩ := enterSafe_feeder k (frameFaulted s) hc
    have hs : u.feeder[k] = s.feeder[k] := hu
    rw [heq, hk, ← hs]
    exact ⟨hout, stationTripped_feeder k u⟩
  case groups =>
    have hg : s.frameFaultTaken.group[g] =
        if s.group[g].state.fires = true ∨ s.group[g].state = .blocked then s.group[g].take .off else s.group[g] := by
      rw [heq]
      exact enterSafe_group g (frameFaulted s)
    rw [hg]
    refine ⟨fun h => by rw [if_pos h, take_state], fun h => if_neg ?_⟩
    obtain h | h | h := h <;> simp [-Fin.getElem_fin, h, GState.fires]
  case capture =>
    rw [heq]
    have hsame : SameCapture s (frameFaulted s) := ⟨rfl, rfl, rfl, rfl⟩
    obtain ⟨hcap, q, hgrow, hevents⟩ := enterSafe_capture (frameFaulted s) hc
    obtain ⟨hc', href⟩ := (hsame.triggers ((feeders6.filter fun j =>
      s.feeder[j].state == .closed || s.feeder[j].state == .closing).map srcTrip)).trigger srcStation
    exact ⟨hcap.trans hc'.cap, q, hgrow, href ▸ hevents⟩
  case frame =>
    obtain ⟨_, _, _, _, _, _, _, h⟩ := ((Reacts.refl s).frameFaultTaken).frame
    rw [h]

end Sys2Proof.Proofs
end

section
/-! An accepted telegram (R45, R47, R52, R55, R69, R99, R100): the partner entry and its sections written as one whole,
then each section's changes handed to its feeder. -/
namespace Sys2Proof.Proofs

open Sys2Proof Sys2Proof.Machine Sys2Proof.Laws

-- ===================================================================== intertrip_in (R52, R69, R186)

theorem itIn_iff (c : Section) : c.itIn = true ↔ c.itTelegram = true ∨ c.itTerminal = true := Bool.or_eq_true_iff

/-- The event of an intertrip_in that rises. -/
def intertripEvent (k : Fin 6) (part : Nat) (s : State) : Event :=
  s.event .sco (k.val + 1) .intertripReceived (BitVec.ofNat 16 (k.val + 1)) (BitVec.ofNat 16 part) .none

/-- intertrip_in is handed on at its rise alone. -/
theorem handIntertrip_none (k : Fin 6) (before : Bool) (part : Nat) (s : State)
    (h : before = true ∨ s.sec[k].itIn = false) : s.handIntertrip k before part = s := by
  refine if_neg fun hrise => ?_
  obtain ⟨hb, hi⟩ := hrise
  obtain h | h := h
  · rw [h] at hb
    cases hb
  · rw [h] at hi
    cases hi

theorem handIntertrip_rise (k : Fin 6) (part : Nat) (s : State) (h : s.sec[k].itIn = true) :
    s.handIntertrip k false part = s.intertripReceived k part := if_pos ⟨rfl, h⟩

/-- An intertrip received in CLOSED or CLOSING opens the breaker toward WAIT_PARTNER. -/
theorem intertripReceived_active (k : Fin 6) (part : Nat) (s : State) (h : s.feeder[k].state.active = true) :
    s.intertripReceived k part = { s with
      feeder := s.feeder.set k { s.feeder[k] with
                                 state := .opening, origin := .intertrip, element := .none, sotf := false
                                 dest := some .waitPartner, phase := none, manual := false, blockCause := .none
                                 timer := some (s.general k).tOpenMax, tripAt := s.elapsed }
      disc := s.disc.set k { s.disc[k] with
                             rising := false, rise := none, imaxRun := 0, dtCount := 0, window := 0
                             windowOpen := false }
      sec := s.sec.set k { s.sec[k] with role := .none }
      events := pushEvent (pushEvent s.events (intertripEvent k part s))
        (s.event .fpu (k.val + 1) .tripFeeder (BitVec.ofNat 16 (2 * 256))
          (BitVec.ofInt 16 (s.reading (chIF k)).value) (s.trigger (srcTrip k)).2)
      cap := (s.trigger (srcTrip k)).1.cap } := by
  have hopen : s.intertripReceived k part =
      ({ s with events := pushEvent s.events (intertripEvent k part s) } : State).openBreaker k .intertrip .none false
        .waitPartner .none .none (s.currentValue k) := if_pos h
  have hleave := onMove_leave s.disc[k] (new := .opening) h rfl
  rw [hopen, openBreaker_trigger, trigger_of_feederActs (srcTrip k) s s.feeder s.disc s.sec]
  dsimp only
  rw [hleave]
  rfl

-- ===================================================================== one section's changes (R47, R52, R55)

/-- Re-evaluation writes the feeding condition and logs its change. -/
theorem reevaluate_eq (k : Fin 6) (s : State) :
    ∃ e, s.reevaluate k = { s with sec := s.sec.set k { s.sec[k] with double := s.fedDouble k }, events := e } := by
  by_cases h : s.fedDouble k = s.sec[k].double
  · refine ⟨s.events, ?_⟩
    have hset : s.sec.set k s.sec[k] = s.sec := Vector.set_getElem_self _
    rw [reevaluate_same k s h, h, hset]
  · have hflip := reevaluate_changed k s h
    rw [← Bool.eq_not.2 h] at hflip
    exact ⟨_, hflip⟩

/-- What a feeder sequence does leaves the feeding condition of its section as it stands. -/
theorem fedDouble_acts {s t : State} (h : FeederActs s t) (k : Fin 6) (hs : t.sec[k].summary = s.sec[k].summary) :
    t.fedDouble k = s.fedDouble k := by
  have hpartner : t.partnerOf k = s.partnerOf k := by
    unfold State.partnerOf State.cfg
    rw [h.reacts.sst]
  unfold State.fedDouble State.cfg
  rw [hpartner, h.reacts.link, h.reacts.sst, hs]

/-- s after one section's changes of summary and intertrip have been handed to its feeder. -/
def sectionHanded (k : Fin 6) (before : Section) (s : State) : State :=
  (if s.sec[k].summary = before.summary then s else s.summaryChanged k).handIntertrip k before.itIn partTelegram

theorem sectionHanded_run (k : Fin 6) (before : Section) (s : State) : FeederRun k s (sectionHanded k before s) :=
  (FeederRun.ite .refl FeederRun.refl.summaryChanged).handIntertrip

/-- The section after its changes are handed: the feeder wrote intertrip_out and role, the coordinator the feeding
condition. -/
theorem handSection_eq (k : Fin 6) (before : Section) (s : State) :
    ∃ o r e, s.handSection k before = { sectionHanded k before s with
      sec := (sectionHanded k before s).sec.set k
        { s.sec[k] with itOut := o, role := r, double := s.fedDouble k }
      events := e } := by
  have hacts : FeederActs s (sectionHanded k before s) :=
    (FeederActs.ite (.refl s) (FeederActs.refl s).summaryChanged).handIntertrip
  obtain ⟨o, r, hown⟩ := (sectionHanded_run k before s).own
  obtain ⟨e, he⟩ := reevaluate_eq k (sectionHanded k before s)
  refine ⟨o, r, e, he.trans ?_⟩
  rw [fedDouble_acts hacts k (by rw [hown]), hown]

theorem handSection_other (k j : Fin 6) (before : Section) (s : State) (h : j ≠ k) :
    SameFeeder j s (s.handSection k before) := by
  obtain ⟨o, r, e, he⟩ := handSection_eq k before s
  have hrun := (sectionHanded_run k before s).sameFeeder h
  rw [he]
  exact ⟨hrun.feeder, hrun.disc, (set_other _ _ h).trans hrun.sec⟩

/-- A change of the partner's summary means nothing to a feeder in CLOSED or CLOSING. -/
theorem summaryChanged_active (k : Fin 6) (s : State) (h : s.feeder[k].state.active = true) :
    s.summaryChanged k = s := by
  have hw : s.feeder[k].state ≠ .waitPartner := fun e => by rw [e] at h; cases h
  have ht : s.feeder[k].state ≠ .lineTest := fun e => by rw [e] at h; cases h
  have ha : s.mustAbandon k = false := by simp only [State.mustAbandon, beq_false_of_ne ht, Bool.false_and]
  unfold State.summaryChanged State.abandonTest
  rw [if_neg fun e => hw e.1, ha]
  rfl

/-- A feeder in CLOSED or CLOSING whose intertrip rises with the telegram trips toward WAIT_PARTNER, intertrip_out as it
was. -/
theorem handSection_intertrip (k : Fin 6) (before : Section) (s : State) (ha : s.feeder[k].state.active = true)
    (hb : before.itIn = false) (hi : s.sec[k].itIn = true) :
    (s.handSection k before).feeder[k].state = .opening ∧ (s.handSection k before).feeder[k].origin = .intertrip ∧
    (s.handSection k before).feeder[k].dest = some .waitPartner ∧
    (s.handSection k before).feeder[k].attempt = s.feeder[k].attempt ∧
    (s.handSection k before).sec[k].itOut = s.sec[k].itOut := by
  have hhand : sectionHanded k before s = s.intertripReceived k partTelegram := by
    unfold sectionHanded
    rw [summaryChanged_active k s ha, ite_self, hb, handIntertrip_rise k _ s hi]
  obtain ⟨e, he⟩ := reevaluate_eq k (sectionHanded k before s)
  have hsec : s.handSection k before = _ := he
  rw [hsec, hhand, intertripReceived_active k _ s ha]
  dsimp only
  rw [set_same, set_same, set_same]
  exact ⟨rfl, rfl, rfl, rfl, rfl⟩

-- ===================================================================== a telegram written (R45)

theorem names_iff (s : State) (k : Fin 6) (j : Fin 4) : s.names k j = true ↔ s.cfg.sections[k].partner = some j :=
  beq_iff_eq

theorem names_acts {s t : State} (h : FeederActs s t) (k : Fin 6) (j : Fin 4) : t.names k j = s.names k j := by
  unfold State.names State.cfg
  rw [h.reacts.sst]

/-- What a telegram writes into a section: the first entry for its partner feeder, or nothing known (R45). -/
theorem write_spec (c : Section) (feeder : Nat) (es : List Entry) :
    (∀ e, es.find? (fun e => e.feeder == feeder) = some e → c.write feeder es =
      { c with summary := if e.testing = true then .testing else e.summary, porigin := e.origin
               itTelegram := e.intertrip }) ∧
    (es.find? (fun e => e.feeder == feeder) = none → c.write feeder es = c.clearPartner) := by
  unfold Section.write
  refine ⟨fun e h => ?_, fun h => ?_⟩ <;> rw [h]

/-- The entry and then every section that names it are written from a telegram. -/
def telegramNoted (j : Fin 4) (m : Mode) (g : Nat) (s : State) : State :=
  s.setLink j { s.link[j] with mode := some m, groups := g }

/-- One section written from a telegram. -/
def sectionWritten (k : Fin 6) (es : List Entry) (s : State) : Section :=
  s.sec[k].write s.cfg.sections[k].partnerFeeder es

/-- A section that names the entry is written, and its changes handed with the whole telegram written; every other stays
as it was, with its feeder. -/
theorem writeTelegram_section (j : Fin 4) (m : Mode) (g : Nat) (es : List Entry) (s : State) (k : Fin 6) :
    (s.names k j = true → ∃ u, FeederActs (telegramNoted j m g s) u ∧ u.feeder[k] = s.feeder[k] ∧
      u.sec[k] = sectionWritten k es s ∧ SameFeeder k (u.handSection k s.sec[k]) (s.writeTelegram j m g es)) ∧
    (s.names k j = false → SameFeeder k s (s.writeTelegram j m g es)) := by
  have hnoted : SameFeeder k s (telegramNoted j m g s) := ⟨rfl, rfl, rfl⟩
  obtain ⟨hall, _, hwrite⟩ := foldl_feeders (R := FeederActs (telegramNoted j m g s))
    (f := fun s k => if s.names k j then s.setSec k (s.sec[k].write s.cfg.sections[k].partnerFeeder es) else s)
    (fun k i u hi => by
      split
      · exact ⟨rfl, rfl, State.setSec_other _ _ _ _ (Ne.symm hi)⟩
      · exact .refl i u)
    (fun k u hu => .ite hu.setSec hu) feeders6 feeders6_nodup (telegramNoted j m g s) (.refl _)
  obtain ⟨v, hv, hsame, hlater⟩ := hwrite k (mem_feeders6 k)
  generalize hw : feeders6.foldl (fun s k =>
    if s.names k j then s.setSec k (s.sec[k].write s.cfg.sections[k].partnerFeeder es) else s)
    (telegramNoted j m g s) = w at hall hlater
  have heq : s.writeTelegram j m g es = feeders6.foldl (fun u k =>
      if u.names k j then u.handSection k s.sec[k] else u) w := by rw [← hw]; rfl
  obtain ⟨u, hu, hsame', hlater'⟩ := foldl_feeders6 (R := FeederActs (telegramNoted j m g s))
    (f := fun u k => if u.names k j then u.handSection k s.sec[k] else u)
    (fun k i u hi => by
      split
      · exact handSection_other k i _ u hi
      · exact .refl i u)
    (fun k u hu => .ite hu.handSection hu) w hall k
  have hnv : v.names k j = s.names k j := names_acts hv k j
  have hnu : u.names k j = s.names k j := names_acts hu k j
  have hbefore : SameFeeder k s v := hnoted.trans hsame
  rw [heq]
  rw [hnv] at hlater
  rw [hnu] at hlater'
  refine ⟨fun hn => ?_, fun hn => ?_⟩
  · rw [if_pos hn] at hlater hlater'
    refine ⟨u, hu, ?_, ?_, hlater'⟩
    · rw [hsame'.feeder, hlater.feeder]
      exact hbefore.feeder
    · have hcfg : v.cfg = s.cfg := congrArg Sst.live hv.reacts.sst
      rw [hsame'.sec, hlater.sec, State.setSec_self, hbefore.sec, hcfg]
      rfl
  · have hno : ¬ s.names k j = true := Bool.eq_false_iff.1 hn
    rw [if_neg hno] at hlater hlater'
    exact ((hbefore.trans hlater).trans hsame').trans hlater'

theorem writeTelegram_acts (j : Fin 4) (m : Mode) (g : Nat) (es : List Entry) (s : State) :
    FeederActs (telegramNoted j m g s) (s.writeTelegram j m g es) :=
  .foldl _ (fun _ _ h => .ite h.handSection h) (.foldl _ (fun _ _ h => .ite h.setSec h) (.refl _))

end Sys2Proof.Proofs
end

section
/-! The two ways a telegram is accepted (R99, R100), TELEGRAM_RECEIVED of a partner whose link is UP and LINK_UP, and what
both write. -/
namespace Sys2Proof.Proofs

open Sys2Proof Sys2Proof.Machine Sys2Proof.Laws

-- ===================================================================== what an accepted telegram writes

/-- v is s with the link record of entry j replaced by one that is UP, the ports moved and events logged: the part as an
accepted telegram finds it. -/
structure LinkAccepts (j : Fin 4) (s v : State) : Prop where
  frame : ∃ l a b e, v = { s with link := s.link.set j l, upPort := a, dnPort := b, events := e }
  up : v.link[j].up = true

/-- u is s after the STATUS telegram of entry j with mode m, g groups and entries es. -/
def TelegramWritten (j : Fin 4) (m : Mode) (g : Nat) (es : List Entry) (s u : State) : Prop :=
  u.link[j].up = true ∧ u.link[j].mode = some m ∧ u.link[j].groups = g ∧
  (∀ i : Fin 4, i ≠ j → u.link[i] = s.link[i]) ∧
  (∀ k : Fin 6, s.cfg.sections[k].partner = some j →
    (∀ e, es.find? (fun e => e.feeder == s.cfg.sections[k].partnerFeeder) = some e →
      u.sec[k].summary = (if e.testing = true then .testing else e.summary) ∧ u.sec[k].porigin = e.origin ∧
      u.sec[k].itTelegram = e.intertrip) ∧
    (es.find? (fun e => e.feeder == s.cfg.sections[k].partnerFeeder) = none →
      u.sec[k].summary = .unknown ∧ u.sec[k].porigin = .none ∧ u.sec[k].itTelegram = false) ∧
    (u.sec[k].double = true ↔ u.sec[k].summary = .closed ∧
      (m = .normal ∨ (m = .reduced ∧ s.cfg.sections[k].bOnReduced = false)))) ∧
  (∀ (k : Fin 6) (e : Entry), s.cfg.sections[k].partner = some j →
    es.find? (fun e => e.feeder == s.cfg.sections[k].partnerFeeder) = some e → e.intertrip = true →
    s.sec[k].itTelegram = false → s.sec[k].itTerminal = false →
    (s.feeder[k].state = .closed ∨ s.feeder[k].state = .closing) →
    u.feeder[k].state = .opening ∧ u.feeder[k].origin = .intertrip ∧ u.feeder[k].dest = some .waitPartner ∧
    u.feeder[k].attempt = s.feeder[k].attempt ∧ u.sec[k].itOut = s.sec[k].itOut) ∧
  (∀ k : Fin 6, s.cfg.sections[k].partner ≠ some j → u.sec[k] = s.sec[k] ∧ u.feeder[k] = s.feeder[k]) ∧
  u.sts = s.sts ∧ u.group = s.group ∧ u.sst = s.sst ∧ u.cmp = s.cmp ∧ u.bfb = s.bfb ∧ u.aqu = s.aqu ∧
  u.pending = s.pending ∧ u.uset = s.uset

section written

variable {j : Fin 4} {m : Mode} {g : Nat} {es : List Entry} {s : State}

/-- The link records after the telegram: the entry has mode and groups. -/
theorem writeTelegram_link (j : Fin 4) (m : Mode) (g : Nat) (es : List Entry) (s : State) :
    (s.writeTelegram j m g es).link = s.link.set j { s.link[j] with mode := some m, groups := g } :=
  (writeTelegram_acts j m g es s).reacts.link

/-- The feeding condition of a section that names an enabled entry whose link is UP and has mode m. -/
theorem fedDouble_noted (k : Fin 6) (h : s.cfg.sections[k].partner = some j)
    (he : s.cfg.partners[j].enabled = true) (hup : s.link[j].up = true) (hm : s.link[j].mode = some m) :
    s.fedDouble k = true ↔ s.sec[k].summary = .closed ∧
      (m = .normal ∨ (m = .reduced ∧ s.cfg.sections[k].bOnReduced = false)) := by
  rw [fedDouble_iff, (partnerOf_iff s k j).2 ⟨h, he⟩]
  simp only [Option.some.injEq, exists_eq_left', hup, true_and, hm]
  exact and_comm

/-- A section that names the entry takes the telegram, and its feeding condition follows. -/
theorem writeTelegram_named (k : Fin 6) (h : s.cfg.sections[k].partner = some j)
    (he : s.cfg.partners[j].enabled = true) (hup : s.link[j].up = true) :
    ∃ o r d, (s.writeTelegram j m g es).sec[k] =
        { s.sec[k].write s.cfg.sections[k].partnerFeeder es with itOut := o, role := r, double := d } ∧
      (d = true ↔ (s.sec[k].write s.cfg.sections[k].partnerFeeder es).summary = .closed ∧
        (m = .normal ∨ (m = .reduced ∧ s.cfg.sections[k].bOnReduced = false))) := by
  obtain ⟨u, hu, _, hsec, hlater⟩ := (writeTelegram_section j m g es s k).1 ((names_iff s k j).2 h)
  obtain ⟨o, r, e, hhand⟩ := handSection_eq k s.sec[k] u
  have hcfg : u.cfg = s.cfg := congrArg Sst.live hu.reacts.sst
  have hlink : u.link[j] = { s.link[j] with mode := some m, groups := g } := by
    rw [hu.reacts.link]
    exact State.setLink_self ..
  refine ⟨o, r, u.fedDouble k, ?_, ?_⟩
  · rw [hlater.sec, hhand, hsec]
    exact set_same ..
  · rw [fedDouble_noted (s := u) k (hcfg ▸ h) (hcfg ▸ he) (by rw [hlink]; exact hup) (by rw [hlink]), hsec, hcfg]
    rfl

/-- An intertrip that becomes set with the telegram trips a CLOSED or CLOSING feeder. -/
theorem writeTelegram_intertrip (k : Fin 6) (e : Entry) (h : s.cfg.sections[k].partner = some j)
    (hf : es.find? (fun e => e.feeder == s.cfg.sections[k].partnerFeeder) = some e) (hi : e.intertrip = true)
    (htel : s.sec[k].itTelegram = false) (hterm : s.sec[k].itTerminal = false)
    (hst : s.feeder[k].state = .closed ∨ s.feeder[k].state = .closing) :
    (s.writeTelegram j m g es).feeder[k].state = .opening ∧
    (s.writeTelegram j m g es).feeder[k].origin = .intertrip ∧
    (s.writeTelegram j m g es).feeder[k].dest = some .waitPartner ∧
    (s.writeTelegram j m g es).feeder[k].attempt = s.feeder[k].attempt ∧
    (s.writeTelegram j m g es).sec[k].itOut = s.sec[k].itOut := by
  obtain ⟨u, _, hfeeder, hsec, hlater⟩ := (writeTelegram_section j m g es s k).1 ((names_iff s k j).2 h)
  have hw : u.sec[k] = _ := hsec.trans ((write_spec s.sec[k] _ es).1 e hf)
  have hbefore : s.sec[k].itIn = false := by
    unfold Section.itIn
    rw [htel, hterm]
    rfl
  have htrip := handSection_intertrip k s.sec[k] u (by rw [hfeeder]; exact (active_iff _).2 hst) hbefore
    ((itIn_iff _).2 (.inl (by rw [hw]; exact hi)))
  have hout : u.sec[k].itOut = s.sec[k].itOut := by rw [hw]
  rw [hlater.feeder, hlater.sec, ← hfeeder, ← hout]
  exact htrip

/-- What every accepted telegram writes, from the part as it found it. -/
theorem writeTelegram_written {v : State} (h : LinkAccepts j s v) (he : s.cfg.partners[j].enabled = true) :
    TelegramWritten j m g es s (v.writeTelegram j m g es) := by
  have hup := h.up
  obtain ⟨l, a, b, e, hv⟩ := h.frame
  have hlink := writeTelegram_link j m g es v
  have hacts := (writeTelegram_acts j m g es v).reacts
  have hcfg : v.cfg = s.cfg := by rw [hv]; rfl
  have hsec : v.sec = s.sec := by rw [hv]
  have hfeeder : v.feeder = s.feeder := by rw [hv]
  refine ⟨by rw [hlink, set_same]; exact hup, by rw [hlink, set_same], by rw [hlink, set_same], fun i hi => ?_,
    fun k hk => ?_, fun k e hk hf hi htel hterm hst => ?_, fun k hk => ?_, ?_⟩
  · rw [hlink, set_other _ _ hi, hv]
    exact set_other _ _ hi
  · rw [← hcfg] at hk ⊢
    obtain ⟨o, r, d, hwritten, hd⟩ := writeTelegram_named (m := m) (g := g) (es := es) k hk (hcfg ▸ he) hup
    obtain ⟨hsome, hnone⟩ := write_spec v.sec[k] v.cfg.sections[k].partnerFeeder es
    rw [hwritten]
    refine ⟨fun e hf => ?_, fun hf => ?_, hd⟩
    · rw [hsome e hf]
      exact ⟨rfl, rfl, rfl⟩
    · rw [hnone hf]
      exact ⟨rfl, rfl, rfl⟩
  · rw [← hcfg] at hk hf
    rw [← hsec] at htel hterm ⊢
    rw [← hfeeder] at hst ⊢
    exact writeTelegram_intertrip k e hk hf hi htel hterm hst
  · rw [← hcfg] at hk
    have hsame := (writeTelegram_section j m g es v k).2 (Bool.eq_false_iff.2 (mt (names_iff v k j).1 hk))
    rw [← hsec, ← hfeeder]
    exact ⟨hsame.sec, hsame.feeder⟩
  · have hsts : (v.writeTelegram j m g es).sts = v.sts := (writeTelegram_acts j m g es v).sts
    have hgroup : (v.writeTelegram j m g es).group = v.group := (writeTelegram_acts j m g es v).group
    rw [hsts, hgroup, hacts.sst, hacts.cmp, hacts.bfb, hacts.aqu, hacts.pending, hacts.uset, hv]
    exact ⟨rfl, rfl, rfl, rfl, rfl, rfl, rfl, rfl⟩

end written

-- ===================================================================== LINK_UP (R100)

theorem linkUpTaken_eq (j : Fin 4) (t : Telegram) (m : Mode) (g : Nat) (es : List Entry) (s : State)
    (hup : s.link[j].up = false) (hc : s.link[j].upCount = 3) (hh : s.link[j].held = some t)
    (hb : t.body = .status m g es) :
    s.linkUpTaken j =
      ((s.setLink j { s.link[j] with up := true, held := none }).logPartner j linkUpCode .accepted).writeTelegram j m g
        es := by
  have hdue : s.linkUpDue j = true := by simp only [State.linkUpDue, hup, hc, hh]; rfl
  unfold State.linkUpTaken
  rw [if_pos hdue, hh]
  dsimp only
  unfold State.handTelegram
  rw [hb]

-- ===================================================================== the acceptance test (R99)

theorem setPort_setPort (p : Port) (a b : PortRec) (s : State) : (s.setPort p a).setPort p b = s.setPort p b := by
  cases p <;> rfl

/-- A good STATUS telegram for this station on a port IN_SYNC after START goes to the acceptance test. -/
theorem receive_status (p : Port) (bytes : List Byte) (t : Telegram) (m : Mode) (g : Nat) (es : List Entry) (s : State)
    (hd : (s.port p).disabled = false) (hst : (s.port p).state = .inSync) (hc : s.sts.complete = true)
    (ht : decodeTelegram bytes = some t) (hb : t.body = .status m g es) (ha : s.sts.address = some t.dest) :
    s.receive p bytes false = (s.setPort p { s.port p with silence := 0, undecodable := 0 }).acceptTest p t := by
  have hregain : (s.setPort p { s.port p with silence := 0, undecodable := 0 }).regain p =
      s.setPort p { s.port p with silence := 0, undecodable := 0 } := by
    unfold State.regain
    rw [State.setPort_port, hst]
    rfl
  have hframed : s.receive p bytes false =
      let u := ((s.setPort p { s.port p with silence := 0 }).setPort p
        { (s.setPort p { s.port p with silence := 0 }).port p with undecodable := 0 }).regain p
      if u.sts.complete = true then u.treat p t else u := by
    unfold State.receive
    rw [hd, ht]
    rfl
  rw [hframed, State.setPort_port, setPort_setPort]
  dsimp only
  rw [hregain, State.setPort_sts, hc]
  unfold State.treat
  rw [hb]
  dsimp only
  rw [State.setPort_port, State.setPort_sts, hst, ha, if_pos rfl, if_neg (by decide), if_pos rfl]

/-- The one enabled entry of a port with an address is the partner it comes from. -/
theorem partnerFrom_unique (p : Port) (source : Byte) (j : Fin 4) (s : State)
    (he : s.cfg.partners[j].enabled = true) (hp : s.cfg.partners[j].port = p)
    (ha : s.cfg.partners[j].address = source.toNat) (hown : s.sts.address ≠ some source)
    (hother : ∀ i : Fin 4, i ≠ j → s.cfg.partners[i].enabled = true →
      s.cfg.partners[i].address ≠ s.cfg.partners[j].address) :
    s.partnerFrom p source = some j := by
  have hiff (i : Fin 4) : (s.sts.address != some source && s.cfg.partners[i].enabled &&
      s.cfg.partners[i].address == source.toNat && s.cfg.partners[i].port == p) = true ↔ i = j := by
    refine ⟨fun h => ?_, ?_⟩
    · simp only [Bool.and_eq_true, beq_iff_eq, bne_iff_ne] at h
      obtain ⟨⟨⟨_, hei⟩, hai⟩, _⟩ := h
      by_contra hi
      exact hother i hi hei (hai.trans ha.symm)
    · rintro rfl
      simp only [Bool.and_eq_true, beq_iff_eq, bne_iff_ne]
      exact ⟨⟨⟨hown, he⟩, ha⟩, hp⟩
  have hmem : j ∈ partners4 := (by decide : ∀ j : Fin 4, j ∈ partners4) j
  unfold State.partnerFrom
  rw [List.find?_eq_some_iff_append]
  refine ⟨(hiff j).2 rfl, ?_⟩
  obtain ⟨a, b, hab⟩ := List.append_of_mem hmem
  have hnodup : (a ++ j :: b).Nodup := hab ▸ (by decide : partners4.Nodup)
  refine ⟨a, b, hab, fun i hi => ?_⟩
  have hij : i ≠ j := by
    rintro rfl
    exact (List.nodup_append.1 hnodup).2.2 i hi i List.mem_cons_self rfl
  rw [Bool.not_eq_true']
  exact Bool.eq_false_iff.2 (mt (hiff i).1 hij)

/-- A sequence number that does not repeat the last one is in order, or leaves a gap. -/
theorem judgeSeq_new (last : Option Byte) (seq : Byte) (h : last ≠ some seq) :
    judgeSeq last seq = if ∃ q, last = some q ∧ seq ≠ q + 1 then .gap else .inOrder := by
  cases last with
  | none => simp [judgeSeq]
  | some q =>
    have hq : seq ≠ q := fun e => h (by rw [e])
    by_cases hn : seq = q + 1 <;> simp [judgeSeq, hq, hn]

/-- Whether an accepted sequence number leaves a gap. -/
def seqGapNow (last : Option Byte) (seq : Byte) : Bool := judgeSeq last seq == .gap

theorem seqGapNow_iff (last : Option Byte) (seq : Byte) (h : last ≠ some seq) :
    seqGapNow last seq = true ↔ ∃ q, last = some q ∧ seq ≠ q + 1 := by
  unfold seqGapNow
  rw [judgeSeq_new last seq h]
  split
  case isTrue hgap => exact iff_of_true rfl hgap
  case isFalse hno => exact iff_of_false (by decide) hno

/-- The port record after an accepted telegram. -/
def portAccepted (r : PortRec) (gap : Bool) : PortRec :=
  { r with silence := 0, undecodable := 0, seqGap := r.seqGap || gap }

/-- The part as an accepted telegram of an UP partner finds it when it is written. -/
def telegramTaken (p : Port) (j : Fin 4) (t : Telegram) (s : State) : State :=
  (s.setPort p (portAccepted (s.port p) (seqGapNow s.link[j].lastSeq t.seq))).setLink j
    { s.link[j] with lastSeq := some t.seq, timeout := some 20, lastAccepted := some s.elapsed }

theorem setPort_elapsed (p : Port) (r : PortRec) (s : State) : (s.setPort p r).elapsed = s.elapsed := by
  cases p <;> rfl

theorem accepted_up (j : Fin 4) (gap : Bool) (t : Telegram) (m : Mode) (g : Nat) (es : List Entry) (s : State)
    (hup : s.link[j].up = true) (hb : t.body = .status m g es) :
    s.accepted j gap t = (s.setLink j
      { s.link[j] with lastSeq := some t.seq, timeout := some 20, lastAccepted := some s.elapsed }).writeTelegram j m g
        es := by
  unfold State.accepted State.handTelegram LinkRec.accept
  dsimp only
  rw [hup, if_pos rfl, if_pos rfl, hb]

/-- The acceptance test on a telegram of an UP partner whose sequence number does not repeat. -/
theorem acceptTest_up (p : Port) (j : Fin 4) (t : Telegram) (m : Mode) (g : Nat) (es : List Entry) (s : State)
    (hfrom : s.partnerFrom p t.source = some j) (hup : s.link[j].up = true) (hb : t.body = .status m g es)
    (hseq : s.link[j].lastSeq ≠ some t.seq) :
    (s.setPort p { s.port p with silence := 0, undecodable := 0 }).acceptTest p t =
      (telegramTaken p j t s).writeTelegram j m g es := by
  have hfrom' (r : PortRec) : (s.setPort p r).partnerFrom p t.source = some j := by
    rw [← hfrom]
    cases p <;> rfl
  have hlink (r : PortRec) : (s.setPort p r).link = s.link := by cases p <;> rfl
  unfold State.acceptTest telegramTaken
  rw [hfrom']
  dsimp only
  rw [hlink]
  obtain hj | hj : judgeSeq s.link[j].lastSeq t.seq = .gap ∨ judgeSeq s.link[j].lastSeq t.seq = .inOrder := by
    rw [judgeSeq_new _ _ hseq]
    split
    · exact .inl rfl
    · exact .inr rfl
  · have hgap : seqGapNow s.link[j].lastSeq t.seq = true := by rw [seqGapNow, hj]; rfl
    rw [hj, hgap]
    dsimp only
    rw [State.setPort_port, setPort_setPort, accepted_up j true t m g es _ (by rw [hlink]; exact hup) hb, hlink,
      setPort_elapsed]
    unfold portAccepted
    rw [Bool.or_true]
  · have hgap : seqGapNow s.link[j].lastSeq t.seq = false := by rw [seqGapNow, hj]; rfl
    rw [hj, hgap]
    dsimp only
    rw [accepted_up j false t m g es _ (by rw [hlink]; exact hup) hb, hlink, setPort_elapsed]
    unfold portAccepted
    rw [Bool.or_false]

theorem telegramTaken_accepts (p : Port) (j : Fin 4) (t : Telegram) (s : State) (hup : s.link[j].up = true) :
    LinkAccepts j s (telegramTaken p j t s) := by
  refine ⟨?_, ?_⟩
  · cases p <;> exact ⟨_, _, _, _, rfl⟩
  · exact (congrArg LinkRec.up (State.setLink_self ..)).trans hup

theorem writeTelegram_port (p : Port) (j : Fin 4) (m : Mode) (g : Nat) (es : List Entry) (s : State) :
    (s.writeTelegram j m g es).port p = s.port p := by
  have hacts := (writeTelegram_acts j m g es s).reacts
  cases p
  · exact hacts.upPort
  · exact hacts.dnPort

-- ===================================================================== O32

/-- LINK_UP takes a partner UP and writes the telegram it held (R100). -/
theorem linkUp_written (t : Telegram) (m : Mode) (g : Nat) (es : List Entry) (j : Fin 4) (s : State)
    (he : s.cfg.partners[j].enabled = true) (hb : t.body = .status m g es) (hup : s.link[j].up = false)
    (hc : s.link[j].upCount = 3) (hh : s.link[j].held = some t) :
    ∃ u, exec (.linkUp j) s = .next u ∧ TelegramWritten j m g es s u ∧ u.link[j].held = none ∧
      EventsGrow
        (pushEvent s.events (s.event .nlc (11 + j.val) .linkState 3 (BitVec.ofNat 16 (linkCauseCode .accepted)) .none))
        u.events ∧
      u.upPort = s.upPort ∧ u.dnPort = s.dnPort := by
  let v : State := (s.setLink j { s.link[j] with up := true, held := none }).logPartner j linkUpCode .accepted
  have hlink : v.link[j] = { s.link[j] with up := true, held := none } := State.setLink_self ..
  have haccepts : LinkAccepts j s v := ⟨⟨_, _, _, _, rfl⟩, by rw [hlink]⟩
  have hacts := (writeTelegram_acts j m g es v).reacts
  have htaken := linkUpTaken_eq j t m g es s hup hc hh hb
  have hexec : exec (.linkUp j) s = .next (s.linkUpTaken j) := rfl
  rw [hexec, htaken]
  refine ⟨v.writeTelegram j m g es, rfl, writeTelegram_written haccepts he, ?_, hacts.grow, hacts.upPort, hacts.dnPort⟩
  rw [writeTelegram_link, set_same, hlink]

/-- TELEGRAM_RECEIVED of an UP partner's telegram writes it (R99, R100). -/
theorem telegramReceived_written (p : Port) (bytes : List Byte) (t : Telegram) (m : Mode) (g : Nat) (es : List Entry)
    (j : Fin 4) (s : State) (he : s.cfg.partners[j].enabled = true) (hb : t.body = .status m g es)
    (hq : s.quiet = true) (hup : s.link[j].up = true) (hd : (s.port p).disabled = false)
    (hst : (s.port p).state = .inSync) (hc : s.sts.complete = true) (ht : decodeTelegram bytes = some t)
    (hdest : s.sts.address = some t.dest) (hp : s.cfg.partners[j].port = p)
    (ha : s.cfg.partners[j].address = t.source.toNat) (hown : s.sts.address ≠ some t.source)
    (hother : ∀ i : Fin 4, i ≠ j → s.cfg.partners[i].enabled = true →
      s.cfg.partners[i].address ≠ s.cfg.partners[j].address)
    (hseq : s.link[j].lastSeq ≠ some t.seq) :
    ∃ u, exec (.telegramReceived p bytes false) s = .next u ∧ TelegramWritten j m g es s u ∧
      u.link[j].lastSeq = some t.seq ∧ u.link[j].timeout = some 20 ∧ u.link[j].lastAccepted = some s.elapsed ∧
      EventsGrow s.events u.events ∧ (u.port p).silence = 0 ∧ (u.port p).undecodable = 0 ∧
      ((u.port p).seqGap = true ↔
        (s.port p).seqGap = true ∨ ∃ q, s.link[j].lastSeq = some q ∧ t.seq ≠ q + 1) := by
  have htaken := (receive_status p bytes t m g es s hd hst hc ht hb hdest).trans (acceptTest_up p j t m g es s
    (partnerFrom_unique p t.source j s he hp ha hown hother) hup hb hseq)
  have hlink : (telegramTaken p j t s).link[j] = _ := State.setLink_self ..
  have hport : (telegramTaken p j t s).port p = portAccepted (s.port p) (seqGapNow s.link[j].lastSeq t.seq) := by
    unfold telegramTaken
    cases p <;> rfl
  have hevents : (telegramTaken p j t s).events = s.events := by cases p <;> rfl
  have hgrow := (writeTelegram_acts j m g es (telegramTaken p j t s)).grow
  refine ⟨_, next_settled hq htaken, writeTelegram_written (telegramTaken_accepts p j t s hup) he, ?_⟩
  rw [writeTelegram_link, set_same, hlink, writeTelegram_port, hport, ← hevents]
  refine ⟨rfl, rfl, rfl, hgrow, rfl, rfl, ?_⟩
  rw [← seqGapNow_iff _ _ hseq]
  exact Bool.or_eq_true_iff

/-- Settles O32: what an accepted telegram writes, through the section as the telegram leaves it and its changes as they
are handed on; and an intertrip that rises. -/
theorem acceptedTelegramWritten : Obligations.AcceptedTelegramWritten := by
  refine ⟨fun p bytes t m g es j s he hb => ⟨linkUp_written t m g es j s he hb,
    telegramReceived_written p bytes t m g es j s he hb⟩, fun k level before part s => ⟨rfl, fun h => ?_, ?_⟩⟩
  · refine handIntertrip_none k before part s (h.imp_right fun hi => ?_)
    rw [Section.itIn, hi.1, hi.2]
    rfl
  · rintro rfl hi
    rw [handIntertrip_rise k part s ((itIn_iff _).2 hi)]
    refine ⟨fun hst => intertripReceived_active k part s ((active_iff _).2 hst), fun hclosed hclosing => ?_⟩
    exact intertripReceived_inactive k part s (Bool.eq_false_iff.2 fun h => ((active_iff _).1 h).elim hclosed hclosing)

end Sys2Proof.Proofs
end

section
/-! The adoption of the feeders at the end of START (R52, R82, R83, R89): a feeder enters CLOSED or OPEN as its breaker
reads, and then acts on what it kept. -/
namespace Sys2Proof.Proofs

open Sys2Proof Sys2Proof.Machine Sys2Proof.Laws

-- ===================================================================== what the kept events leave alone

/-- Feeder k still keeps what it kept, its lost mark and its intertrip_out. -/
structure KeepsMarks (k : Fin 6) (s t : State) : Prop where
  kept : t.feeder[k].kept = s.feeder[k].kept
  lost : t.feeder[k].lost = s.feeder[k].lost
  out : t.sec[k].itOut = s.sec[k].itOut

section marks

variable {k : Fin 6}

theorem KeepsMarks.refl (s : State) : KeepsMarks k s s := ⟨rfl, rfl, rfl⟩

theorem KeepsMarks.trans {s t u : State} (h : KeepsMarks k s t) (h' : KeepsMarks k t u) : KeepsMarks k s u :=
  ⟨h'.kept.trans h.kept, h'.lost.trans h.lost, h'.out.trans h.out⟩

theorem SameFeeder.marks {s t : State} (h : SameFeeder k s t) : KeepsMarks k s t :=
  ⟨by rw [h.feeder], by rw [h.feeder], by rw [h.sec]⟩

theorem openBreaker_marks (o : Origin) (e : Element) (b : Bool) (d : Dest) (lc : LockCause) (bc : BlockCause)
    (q : Word16) (s : State) : KeepsMarks k s (s.openBreaker k o e b d lc bc q) := by
  rw [openBreaker_trigger]
  constructor <;> dsimp only <;> rw [set_same]

theorem lockOut_marks (c : LockCause) (s : State) : KeepsMarks k s (s.lockOut k c) := by
  rw [lockOut_spec]
  constructor <;> dsimp only <;> rw [set_same]

theorem enterBlocked_marks (c : BlockCause) (s : State) : KeepsMarks k s (s.enterBlocked k c) := by
  rw [enterBlocked_spec]
  constructor <;> dsimp only <;> rw [set_same]

theorem setFeeder_marks (f : Feeder) (s : State) (hk : f.kept = s.feeder[k].kept) (hl : f.lost = s.feeder[k].lost) :
    KeepsMarks k s (s.setFeeder k f) :=
  ⟨(congrArg Feeder.kept (set_same ..)).trans hk, (congrArg Feeder.lost (set_same ..)).trans hl, rfl⟩

theorem currentLost_marks (s : State) (h : s.feeder[k].state ≠ .lineTest) : KeepsMarks k s (s.currentLost k) := by
  unfold State.currentLost
  split
  case h_1 | h_2 => exact openBreaker_marks ..
  case h_3 => exact setFeeder_marks _ _ rfl rfl
  case h_4 | h_5 | h_6 | h_7 => exact lockOut_marks ..
  case h_8 ht => exact absurd ht h
  case h_9 =>
    split
    · exact .refl s
    · exact setFeeder_marks _ _ rfl rfl

theorem stationTripped_marks (s : State) (h : s.feeder[k].state ≠ .lineTest) :
    KeepsMarks k s (s.stationTripped k) := by
  unfold State.stationTripped
  split
  case h_1 | h_2 => exact openBreaker_marks ..
  case h_3 =>
    split
    · exact .refl s
    · exact setFeeder_marks _ _ rfl rfl
  case h_4 | h_5 | h_6 => exact enterBlocked_marks ..
  case h_7 ht => exact absurd ht h
  case h_8 | h_9 => exact .refl s

end marks

-- ===================================================================== a failure of IFk, by the state it finds (R82)

/-- A failure of the current channel opens the breaker or locks the feeder out. -/
theorem currentLost_feeder (k : Fin 6) (s : State) :
    (s.feeder[k].state = .closed ∨ s.feeder[k].state = .opening →
      (s.currentLost k).feeder[k].lockCause = .channel ∧ (s.currentLost k).feeder[k].state = .opening ∧
      (s.currentLost k).feeder[k].dest = some .lockedOut) ∧
    (s.feeder[k].state = .open ∨ s.feeder[k].state = .blocked ∨
        (s.feeder[k].state = .lockedOut ∧ s.feeder[k].lockCause = .channel) →
      (s.currentLost k).feeder[k].lockCause = .channel ∧ (s.currentLost k).feeder[k].state = .lockedOut) := by
  have hlock (u : State) : (u.lockOut k .channel).feeder[k].lockCause = .channel ∧
      (u.lockOut k .channel).feeder[k].state = .lockedOut := by
    rw [lockOut_spec]
    dsimp only
    rw [set_same]
    exact ⟨rfl, rfl⟩
  unfold State.currentLost
  split
  case h_1 hst =>
    rw [openBreaker_trigger, hst]
    dsimp only
    rw [set_same]
    simp
  case h_3 hst =>
    rw [State.setFeeder_self]
    simp [-Fin.getElem_fin, hst]
  case h_4 hst | h_7 hst => simp [-Fin.getElem_fin, hst, hlock]
  case h_9 hst => simp +contextual [-Fin.getElem_fin, hst, set_same]
  case h_2 hst | h_5 hst | h_6 hst | h_8 hst => simp [-Fin.getElem_fin, hst]

/-- Outside LINE_TEST a failure of the voltage channel sets the lost mark and clears the live run. -/
theorem voltageLost_quiet (k : Fin 6) (s : State) (h : s.feeder[k].state ≠ .lineTest) :
    s.voltageLost k = s.setFeeder k { s.feeder[k] with lost := true, liveRun := 0 } := by
  refine if_neg (Bool.eq_false_iff.1 ?_)
  unfold Feeder.testing
  rw [beq_false_of_ne h, Bool.false_and]

-- ===================================================================== acting on what was kept (R89)

/-- Feeder k after its adoption, CLOSED or OPEN, with the kept events of ks acted on: n and w are the timer and the
close-onto-fault window of the adoption itself. -/
structure StartActed (k : Fin 6) (closed : Bool) (n : Nat) (w : Bool) (ks : List Kept) (s : State) : Prop where
  kept : s.feeder[k].kept = []
  out : closed = true → s.sec[k].itOut = false
  lost : Kept.voltageFailed ∈ ks → s.feeder[k].lost = true
  failed : Kept.currentFailed ∈ ks → s.feeder[k].lockCause = .channel ∧
    (closed = true → s.feeder[k].state = .opening ∧ s.feeder[k].dest = some .lockedOut) ∧
    (closed = false → s.feeder[k].state = .lockedOut)
  tripped : Kept.currentFailed ∉ ks → Kept.stationTrip ∈ ks → s.feeder[k].blockCause = .station ∧
    (closed = true → s.feeder[k].state = .opening ∧ s.feeder[k].origin = .station ∧
      s.feeder[k].dest = some .blocked) ∧
    (closed = false → s.feeder[k].state = .blocked)
  plain : Kept.currentFailed ∉ ks → Kept.stationTrip ∉ ks →
    s.feeder[k].state = (if closed = true then .closed else .open) ∧
    (closed = true → s.feeder[k].timer = some n ∧ s.disc[k].windowOpen = w)

section acted

variable {k : Fin 6} {closed w : Bool} {n : Nat} {ks : List Kept} {s : State}

/-- The states an adopted feeder can stand in. -/
theorem StartActed.states (h : StartActed k closed n w ks s) :
    (closed = true ∧ (s.feeder[k].state = .closed ∨ s.feeder[k].state = .opening)) ∨
    (closed = false ∧ (s.feeder[k].state = .open ∨ s.feeder[k].state = .blocked ∨
      (s.feeder[k].state = .lockedOut ∧ s.feeder[k].lockCause = .channel))) := by
  cases closed with
  | true =>
    refine .inl ⟨rfl, ?_⟩
    by_cases hc : Kept.currentFailed ∈ ks
    · exact .inr ((h.failed hc).2.1 rfl).1
    · by_cases ht : Kept.stationTrip ∈ ks
      · exact .inr ((h.tripped hc ht).2.1 rfl).1
      · exact .inl (h.plain hc ht).1
  | false =>
    refine .inr ⟨rfl, ?_⟩
    by_cases hc : Kept.currentFailed ∈ ks
    · exact .inr (.inr ⟨(h.failed hc).2.2 rfl, (h.failed hc).1⟩)
    · by_cases ht : Kept.stationTrip ∈ ks
      · exact .inr (.inl ((h.tripped hc ht).2.2 rfl))
      · exact .inl (h.plain hc ht).1

theorem StartActed.not_testing (h : StartActed k closed n w ks s) : s.feeder[k].state ≠ .lineTest := by
  intro ht
  obtain ⟨_, hs | hs⟩ | ⟨_, hs | hs | ⟨hs, _⟩⟩ := h.states <;> rw [ht] at hs <;> cases hs

theorem StartActed.currentLost (h : StartActed k closed n w ks s) :
    StartActed k closed n w (.currentFailed :: ks) (s.currentLost k) := by
  have hm := currentLost_marks s h.not_testing
  obtain ⟨hclosed, hopen⟩ := currentLost_feeder k s
  have hno {P : Prop} (hc : Kept.currentFailed ∉ Kept.currentFailed :: ks) : P := absurd List.mem_cons_self hc
  refine ⟨hm.kept.trans h.kept, fun hc => hm.out.trans (h.out hc), fun hv => hm.lost.trans (h.lost ?_), fun _ => ?_,
    fun hc => hno hc, fun hc => hno hc⟩
  · exact (List.mem_cons.1 hv).resolve_left (by decide)
  · obtain ⟨rfl, hst⟩ | ⟨rfl, hst⟩ := h.states
    · obtain ⟨hl, ho, hd⟩ := hclosed hst
      exact ⟨hl, fun _ => ⟨ho, hd⟩, fun e => (by cases e)⟩
    · obtain ⟨hl, ho⟩ := hopen hst
      exact ⟨hl, fun e => (by cases e), fun _ => ho⟩

theorem StartActed.voltageLost (h : StartActed k closed n w ks s) :
    StartActed k closed n w (.voltageFailed :: ks) (s.voltageLost k) := by
  rw [voltageLost_quiet k s h.not_testing]
  have hc : Kept.currentFailed ∈ Kept.voltageFailed :: ks ↔ Kept.currentFailed ∈ ks := by simp
  have ht : Kept.stationTrip ∈ Kept.voltageFailed :: ks ↔ Kept.stationTrip ∈ ks := by simp
  generalize hu : s.setFeeder k { s.feeder[k] with lost := true, liveRun := 0 } = u
  have hf : u.feeder[k] = { s.feeder[k] with lost := true, liveRun := 0 } := by rw [← hu, State.setFeeder_self]
  have hd : u.disc = s.disc := by rw [← hu]; rfl
  have hsec : u.sec = s.sec := by rw [← hu]; rfl
  constructor <;> simp only [hf, hd, hsec, hc, ht]
  case kept => exact h.kept
  case out => exact h.out
  case lost => exact fun _ => trivial
  case failed => exact h.failed
  case tripped => exact h.tripped
  case plain => exact h.plain

theorem StartActed.stationTripped (h : StartActed k closed n w ks s) :
    StartActed k closed n w (.stationTrip :: ks) (s.stationTripped k) := by
  have hm := stationTripped_marks s h.not_testing
  have hc : Kept.currentFailed ∈ Kept.stationTrip :: ks ↔ Kept.currentFailed ∈ ks := by simp
  obtain ⟨hactive, hopen, hopening, hstay⟩ := stationTripped_feeder k s
  refine ⟨hm.kept.trans h.kept, fun hc => hm.out.trans (h.out hc), fun hv => hm.lost.trans (h.lost ?_), fun hk => ?_,
    fun hk _ => ?_, fun _ hs => absurd List.mem_cons_self hs⟩
  · exact (List.mem_cons.1 hv).resolve_left (by decide)
  · rw [hstay ?_]
    · exact h.failed (hc.1 hk)
    · obtain ⟨_, hcl, hop⟩ := h.failed (hc.1 hk)
      cases closed with
      | true => exact .inr (.inr (hcl rfl))
      | false => exact .inl (hop rfl)
  · have hk := mt hc.2 hk
    by_cases hs : Kept.stationTrip ∈ ks
    · obtain ⟨hb, hcl, hop⟩ := h.tripped hk hs
      cases closed with
      | true =>
        obtain ⟨hst, ho, hd⟩ := hcl rfl
        rw [hopening hst (by rw [hd]; decide)]
        exact ⟨rfl, fun _ => ⟨hst, ho, rfl⟩, fun e => (by cases e)⟩
      | false =>
        rw [hstay (.inr (.inl (hop rfl)))]
        exact ⟨hb, fun e => (by cases e), fun _ => hop rfl⟩
    · obtain ⟨hst, _⟩ := h.plain hk hs
      cases closed with
      | true =>
        obtain ⟨hst, ho, hd, hb⟩ := hactive (.inl hst)
        exact ⟨hb, fun _ => ⟨hst, ho, hd⟩, fun e => (by cases e)⟩
      | false =>
        obtain ⟨hst, hb⟩ := hopen (.inl hst)
        exact ⟨hb, fun e => (by cases e), fun _ => hst⟩

/-- What was kept is acted on in its order. -/
theorem StartActed.actKept (l : List Kept) (h : StartActed k closed n w ks s) :
    StartActed k closed n w (l.reverse ++ ks) (s.actKept k l) := by
  induction l generalizing ks s with
  | nil => exact h
  | cons x l ih =>
    rw [List.reverse_cons, List.append_assoc]
    cases x with
    | currentFailed => exact ih h.currentLost
    | voltageFailed => exact ih h.voltageLost
    | stationTrip => exact ih h.stationTripped

theorem StartActed.congr {ks' : List Kept} (h : StartActed k closed n w ks s) (hk : ∀ x, x ∈ ks' ↔ x ∈ ks) :
    StartActed k closed n w ks' s := by
  obtain ⟨h1, h2, h3, h4, h5, h6⟩ := h
  simp only [← hk] at h3 h4 h5 h6
  exact ⟨h1, h2, h3, h4, h5, h6⟩

end acted

-- ===================================================================== the adoption (R89)

/-- s after feeder k has entered CLOSED or OPEN as its breaker reads, and keeps nothing. -/
def adoptedPlain (k : Fin 6) (s : State) : State :=
  if s.bfb[k].reported = true then (s.setFeeder k { s.feeder[k] with kept := [] }).enterClosed k
  else (s.setFeeder k { s.feeder[k] with kept := [] }).enterOpen k

theorem adopt_eq (k : Fin 6) (s : State) :
    s.adopt k = if s.sts.mode = .safe then ((adoptedPlain k s).actKept k s.feeder[k].kept).setItOut k itStation
      else (adoptedPlain k s).actKept k s.feeder[k].kept := by
  have hacts : FeederActs s ((adoptedPlain k s).actKept k s.feeder[k].kept) :=
    (FeederActs.ite (FeederActs.refl s).setFeeder.enterClosed (FeederActs.refl s).setFeeder.enterOpen).actKept
  rw [← hacts.sts]
  rfl

/-- The adoption itself of a feeder in OPEN. -/
theorem adoptedPlain_acted (k : Fin 6) (s : State) (ho : s.feeder[k].state = .open) :
    StartActed k s.bfb[k].reported ((s.general k).tReclaim * 1000) s.disc[k].windowOpen [] (adoptedPlain k s) := by
  unfold adoptedPlain
  cases hb : s.bfb[k].reported with
  | true =>
    rw [if_pos rfl, enterClosed_spec, State.setFeeder_self]
    constructor <;> dsimp only <;> rw [set_same]
    case out => exact fun _ => rfl
    case lost => exact fun h => absurd h List.not_mem_nil
    case failed => exact fun h => absurd h List.not_mem_nil
    case tripped => exact fun _ h => absurd h List.not_mem_nil
    case plain =>
      refine fun _ _ => ⟨rfl, fun _ => ⟨rfl, ?_⟩⟩
      rw [set_same, ho]
      rfl
  | false =>
    rw [if_neg (by decide), enterOpen_spec, State.setFeeder_self]
    constructor <;> dsimp only <;> rw [set_same]
    case out => exact fun h => (by cases h)
    case lost => exact fun h => absurd h List.not_mem_nil
    case failed => exact fun h => absurd h List.not_mem_nil
    case tripped => exact fun _ h => absurd h List.not_mem_nil
    case plain => exact fun _ _ => ⟨rfl, fun h => (by cases h)⟩

/-- A feeder in OPEN is adopted and acts on what it kept; in SAFE its intertrip_out is then set (log 12). -/
theorem adopt_acted (k : Fin 6) (s : State) (ho : s.feeder[k].state = .open) :
    ∃ u, StartActed k s.bfb[k].reported ((s.general k).tReclaim * 1000) s.disc[k].windowOpen s.feeder[k].kept u ∧
      (s.adopt k).feeder[k] = u.feeder[k] ∧ (s.adopt k).disc[k] = u.disc[k] ∧
      (s.adopt k).sec[k].itOut = if s.sts.mode = .safe then true else u.sec[k].itOut := by
  refine ⟨(adoptedPlain k s).actKept k s.feeder[k].kept, ?_, ?_⟩
  · exact ((adoptedPlain_acted k s ho).actKept s.feeder[k].kept).congr fun x => by simp
  · rw [adopt_eq]
    by_cases hm : s.sts.mode = .safe
    · rw [if_pos hm, if_pos hm, setItOut_feeder, setItOut_itOut, setItOut_spec]
      exact ⟨rfl, rfl, rfl⟩
    · rw [if_neg hm, if_neg hm]
      exact ⟨rfl, rfl, rfl⟩

/-- An adoption in START of a feeder that kept nothing logs nothing. -/
theorem adopt_quiet (k : Fin 6) (s : State) (hm : s.sts.mode ≠ .safe) (hk : s.feeder[k].kept = []) :
    (s.adopt k).events = s.events ∧ (s.adopt k).feeder[k].kept = [] := by
  rw [adopt_eq, if_neg hm, hk]
  unfold State.actKept adoptedPlain
  split
  · rw [enterClosed_spec, State.setFeeder_self]
    exact ⟨rfl, congrArg Feeder.kept (set_same ..)⟩
  · rw [enterOpen_spec, State.setFeeder_self]
    exact ⟨rfl, congrArg Feeder.kept (set_same ..)⟩

-- ===================================================================== every feeder

/-- Each feeder's adoption finds its records as START left them. -/
theorem adoptAll_acted (k : Fin 6) (s : State) (ho : s.feeder[k].state = .open) :
    ∃ u, StartActed k s.bfb[k].reported ((s.general k).tReclaim * 1000) s.disc[k].windowOpen s.feeder[k].kept u ∧
      s.adoptAll.feeder[k] = u.feeder[k] ∧ s.adoptAll.disc[k] = u.disc[k] ∧
      s.adoptAll.sec[k].itOut = (if s.sts.mode = .safe then true else u.sec[k].itOut) ∧
      s.adoptAll.sec[k].itIn = s.sec[k].itIn := by
  obtain ⟨v, hv, hsame, hlater⟩ := foldl_feeders6 (R := FeederActs s) (f := fun s k => s.adopt k)
    (fun k j u hj => (FeederRun.refl.adopt).sameFeeder hj) (fun k u h => h.adopt) s (.refl s) k
  obtain ⟨u, hu, hf, hd, hout⟩ := adopt_acted k v (by rw [hsame.feeder]; exact ho)
  obtain ⟨o, r, hown⟩ := ((FeederRun.refl (s := v)).adopt (k := k)).own
  have hgeneral : v.general k = s.general k := by
    unfold State.general
    rw [hv.reacts.sst]
  rw [hv.reacts.bfb, hgeneral, hsame.disc, hsame.feeder] at hu
  rw [hv.sts] at hout
  refine ⟨u, hu, hlater.feeder.trans hf, hlater.disc.trans hd, ?_, ?_⟩
  · exact (congrArg Section.itOut hlater.sec).trans hout
  · refine (congrArg Section.itIn hlater.sec).trans ?_
    rw [hown, hsame.sec]
    rfl

theorem adoptAll_quiet (s : State) (hm : s.sts.mode ≠ .safe) (hk : ∀ k : Fin 6, s.feeder[k].kept = []) :
    s.adoptAll.events = s.events := by
  have hfold := (foldl_feeders (R := fun u => u.sts = s.sts ∧ u.events = s.events ∧ ∀ k : Fin 6, u.feeder[k].kept = [])
    (f := fun s k => s.adopt k) (fun k j u hj => (FeederRun.refl.adopt).sameFeeder hj) (fun k u h => ?_) feeders6
    feeders6_nodup s ⟨rfl, rfl, hk⟩).1
  · exact hfold.2.1
  · obtain ⟨hsts, hevents, hkept⟩ := h
    obtain ⟨he, hown⟩ := adopt_quiet k u (by rw [hsts]; exact hm) (hkept k)
    refine ⟨((FeederActs.refl u).adopt.sts).trans hsts, he.trans hevents, fun j => ?_⟩
    by_cases hj : j = k
    · rw [hj]
      exact hown
    · rw [((FeederRun.refl (s := u)).adopt.sameFeeder hj).feeder]
      exact hkept j

end Sys2Proof.Proofs
end

section
/-! The terminals as they take their settings at the end of START (R52, R167, R168): none has a function before, so each is
taken up fresh, in ascending order, and an input hands its first level. -/
namespace Sys2Proof.Proofs

open Sys2Proof Sys2Proof.Machine Sys2Proof.Laws

-- ===================================================================== groups at rest (R122, R124, R126)

/-- No group fires or waits to restart, and the station does not feed. -/
structure GroupsRest (s : State) : Prop where
  mode : s.sts.mode.feeds = false
  fires : ∀ g : Fin 2, s.group[g].state.fires = false
  blocked : ∀ g : Fin 2, s.group[g].state ≠ .blocked

/-- On groups at rest a temperature trip is recorded and does nothing else. -/
theorem setTemp_rest (g : Fin 2) (b : Bool) (s : State) (h : GroupsRest s) :
    s.setTemp g b = s.setGroupRec g { s.group[g] with temp := b } := by
  unfold State.setTemp
  by_cases hb : s.group[g].temp = b
  · have hset : s.group.set g s.group[g] = s.group := Vector.set_getElem_self _
    rw [if_pos hb, ← hb]
    unfold State.setGroupRec
    rw [hset]
  · rw [if_neg hb]
    generalize hu : s.setGroupRec g { s.group[g] with temp := b } = u
    have hg : u.group[g] = { s.group[g] with temp := b } := by rw [← hu, State.setGroupRec_self]
    have hm : u.sts.mode.feeds = false := by rw [← hu]; exact h.mode
    cases b with
    | true =>
      rw [if_pos rfl]
      unfold State.tempPresent State.blockGroup
      rw [hu, hg]
      exact if_neg (Bool.eq_false_iff.1 (h.fires g))
    | false =>
      rw [if_neg (by decide)]
      unfold State.tempCleared State.groupCauseCleared State.startTest
      rw [hu, if_neg fun e => by rw [hm] at e; exact Bool.false_ne_true e.2.1]
      refine if_neg fun e => h.blocked g ?_
      rw [← e.1, hg]

/-- A change of mode to STANDBY finds nothing to stop. -/
theorem groupsOnMode_rest (s : State) (hf : ∀ g : Fin 2, s.group[g].state.fires = false)
    (hb : ∀ g : Fin 2, s.group[g].state ≠ .blocked) : s.groupsOnMode .standby = s := by
  have hg (g : Fin 2) : s.groupOnMode .standby g = s := if_neg fun e => by
    rw [hf g] at e
    exact e.elim Bool.false_ne_true (hb g)
  simp only [State.groupsOnMode, groups2, List.foldl_cons, List.foldl_nil, hg]

-- ===================================================================== the intertrip terminal of a feeder (R52, R69)

/-- What the terminal part of intertrip_in does to its feeder: it trips one CLOSED or CLOSING, at the rise. -/
theorem setItTerminal_feeder (k : Fin 6) (b : Bool) (s : State) :
    (s.feeder[k].state.active = false → (s.setItTerminal k b).feeder[k] = s.feeder[k]) ∧
    (s.sec[k].itIn = true ∨ (s.sec[k].itTelegram || b) = false →
      (s.setItTerminal k b).feeder[k] = s.feeder[k]) ∧
    (s.feeder[k].state.active = true → s.sec[k].itIn = false → b = true →
      (s.setItTerminal k b).feeder[k].state = .opening ∧ (s.setItTerminal k b).feeder[k].origin = .intertrip) ∧
    KeepsMarks k s (s.setItTerminal k b) ∧
    (s.setItTerminal k b).sec[k].itTelegram = s.sec[k].itTelegram := by
  have hset : s.setItTerminal k b = (s.setSec k { s.sec[k] with itTerminal := b }).handIntertrip k s.sec[k].itIn
      partTerminal := rfl
  generalize hu : s.setSec k { s.sec[k] with itTerminal := b } = u at hset
  have hf : u.feeder[k] = s.feeder[k] := by rw [← hu]; rfl
  have hsec : u.sec[k] = { s.sec[k] with itTerminal := b } := by rw [← hu, State.setSec_self]
  have hin : u.sec[k].itIn = (s.sec[k].itTelegram || b) := by rw [hsec]; rfl
  have hmarks : KeepsMarks k s u := ⟨by rw [hf], by rw [hf], by rw [hsec]⟩
  have htel : u.sec[k].itTelegram = s.sec[k].itTelegram := by rw [hsec]
  rw [hset]
  by_cases hrise : s.sec[k].itIn = false ∧ u.sec[k].itIn = true
  · obtain ⟨hbefore, hnow⟩ := hrise
    rw [hbefore, handIntertrip_rise k _ u hnow]
    by_cases ha : u.feeder[k].state.active = true
    · rw [intertripReceived_active k _ u ha, ← hf]
      dsimp only
      rw [set_same, set_same]
      refine ⟨fun h => absurd ha (Bool.eq_false_iff.1 h), fun h => ?_, fun _ _ _ => ⟨rfl, rfl⟩, hmarks.trans ?_, htel⟩
      · rw [← hin, hnow] at h
        exact absurd h (by decide)
      · constructor <;> dsimp only <;> rw [set_same]
    · rw [intertripReceived_inactive k _ u (Bool.eq_false_iff.2 ha), ← hf]
      exact ⟨fun _ => rfl, fun _ => rfl, fun h => absurd h ha, hmarks.trans ⟨rfl, rfl, rfl⟩, htel⟩
  · rw [handIntertrip_none k s.sec[k].itIn _ u ?_, ← hf]
    · refine ⟨fun _ => rfl, fun _ => rfl, fun _ hbefore hb => absurd ⟨hbefore, ?_⟩ hrise, hmarks, htel⟩
      rw [hin, hb, Bool.or_true]
    · by_cases hbefore : s.sec[k].itIn = true
      · exact .inl hbefore
      · exact .inr (Bool.eq_false_iff.2 fun hnow => hrise ⟨Bool.eq_false_iff.2 hbefore, hnow⟩)

-- ===================================================================== one terminal taken up fresh (R167)

/-- The state with the record of terminal i applied, before its owner hears of it. -/
def terminalTaken (i : Fin 16) (c : TermCfg) (s : State) : State :=
  s.setTerm i (s.term[i].apply c (s.lines.getLsbD i.val))

/-- A terminal without a function has none to leave. -/
theorem applyTerminal_fresh (i : Fin 16) (c : TermCfg) (s : State) (hn : s.term[i].cfg.fn = .none) :
    s.applyTerminal i c =
      if c.mode.isInput = true then (terminalTaken i c s).handFirst c.fn (c.mode.sampled (s.lines.getLsbD i.val))
      else terminalTaken i c s := by
  have hleft : functionLeft i c s = s := by
    unfold functionLeft
    rw [hn]
    exact ite_self s
  rw [applyTerminal_eq, hleft]
  rfl

/-- t is s after terminals have been taken up: feeders and sections may have acted, groups have noted a trip at most. -/
structure TerminalsHanded (s t : State) : Prop where
  frame : ∃ f d c g p e v,
    t = { s with feeder := f, disc := d, sec := c, group := g, cap := p, events := e, term := v }
  grow : EventsGrow s.events t.events
  groups : ∀ g : Fin 2, t.group[g].state = s.group[g].state

theorem TerminalsHanded.refl (s : State) : TerminalsHanded s s := ⟨⟨_, _, _, _, _, _, _, rfl⟩, .refl _, fun _ => rfl⟩

theorem TerminalsHanded.trans {s t u : State} (h : TerminalsHanded s t) (h' : TerminalsHanded t u) :
    TerminalsHanded s u := by
  obtain ⟨⟨_, _, _, _, _, _, _, rfl⟩, hg, hs⟩ := h
  obtain ⟨⟨_, _, _, _, _, _, _, rfl⟩, hg', hs'⟩ := h'
  exact ⟨⟨_, _, _, _, _, _, _, rfl⟩, hg.trans hg', fun g => (hs' g).trans (hs g)⟩

theorem TerminalsHanded.cfg {s t : State} (h : TerminalsHanded s t) : t.cfg = s.cfg := by
  obtain ⟨_, _, _, _, _, _, _, rfl⟩ := h.frame
  rfl

theorem TerminalsHanded.lines {s t : State} (h : TerminalsHanded s t) : t.lines = s.lines := by
  obtain ⟨_, _, _, _, _, _, _, rfl⟩ := h.frame
  rfl

theorem TerminalsHanded.sts {s t : State} (h : TerminalsHanded s t) : t.sts = s.sts := by
  obtain ⟨_, _, _, _, _, _, _, rfl⟩ := h.frame
  rfl

theorem TerminalsHanded.rest {s t : State} (h : TerminalsHanded s t) (hr : GroupsRest s) : GroupsRest t := by
  refine ⟨?_, fun g => ?_, fun g => ?_⟩
  · rw [h.sts]
    exact hr.mode
  · rw [h.groups]
    exact hr.fires g
  · rw [h.groups]
    exact hr.blocked g

theorem terminalTaken_handed (i : Fin 16) (c : TermCfg) (s : State) : TerminalsHanded s (terminalTaken i c s) :=
  ⟨⟨_, _, _, _, _, _, _, rfl⟩, .refl _, fun _ => rfl⟩

/-- The first level of an input, handed on groups at rest: the intertrip of a feeder is the only one that acts. -/
theorem handFirst_rest (fn : TermFn) (b : Bool) (s : State) (h : GroupsRest s) :
    TerminalsHanded s (s.handFirst fn b) ∧
    (∀ k : Fin 6, fn ≠ .itIn k → SameFeeder k s (s.handFirst fn b)) ∧
    ((∀ k : Fin 6, fn ≠ .itIn k) → (s.handFirst fn b).events = s.events) := by
  cases fn with
  | tempTrip g =>
    have htemp : s.handFirst (.tempTrip g) b = s.setGroupRec g { s.group[g] with temp := b } := setTemp_rest g b s h
    rw [htemp]
    refine ⟨⟨⟨_, _, _, _, _, _, _, rfl⟩, .refl _, fun i => ?_⟩, fun _ _ => ⟨rfl, rfl, rfl⟩, fun _ => rfl⟩
    by_cases hi : i = g
    · rw [hi, State.setGroupRec_self]
    · rw [State.setGroupRec_other _ _ _ _ (Ne.symm hi)]
  | itIn j =>
    have hacts : FeederActs s (s.handFirst (.itIn j) b) := (FeederActs.refl s).setItTerminal
    obtain ⟨_, _, _, _, _, hframe⟩ := hacts.frame
    refine ⟨⟨⟨_, _, _, _, _, _, _, hframe⟩, hacts.grow, fun g => by rw [hacts.group]⟩, fun k hk => ?_,
      fun hno => absurd rfl (hno j)⟩
    have hkj : k ≠ j := fun e => hk (by rw [e])
    have hset : SameFeeder k s (s.setSec j { s.sec[j] with itTerminal := b }) :=
      ⟨rfl, rfl, State.setSec_other _ _ _ _ (Ne.symm hkj)⟩
    exact hset.trans ((FeederRun.refl.handIntertrip).sameFeeder hkj)
  | none | localReset _ | rplOut | rplFb | itOut _ | alarmOut =>
    exact ⟨.refl s, fun _ _ => .refl _ s, fun _ => rfl⟩

/-- An input with the function IT_IN of feeder k. -/
def TermCfg.IntertripInput (c : TermCfg) (k : Fin 6) : Prop := c.mode.isInput = true ∧ c.fn = .itIn k

section fresh

variable {i : Fin 16} {c : TermCfg} {s : State} (h : GroupsRest s) (hn : s.term[i].cfg.fn = .none)
include h hn

theorem applyTerminal_handed : TerminalsHanded s (s.applyTerminal i c) := by
  have htaken := terminalTaken_handed i c s
  rw [applyTerminal_fresh i c s hn]
  split
  · exact htaken.trans (handFirst_rest _ _ _ (htaken.rest h)).1
  · exact htaken

/-- Only an intertrip input of feeder k acts on it. -/
theorem applyTerminal_sameFeeder (k : Fin 6) (hk : ¬ TermCfg.IntertripInput c k) : SameFeeder k s (s.applyTerminal i c) := by
  have hsame : SameFeeder k s (terminalTaken i c s) := ⟨rfl, rfl, rfl⟩
  rw [applyTerminal_fresh i c s hn]
  split
  next hin =>
    have hrest := (terminalTaken_handed i c s).rest h
    exact hsame.trans ((handFirst_rest _ _ _ hrest).2.1 k fun e => hk ⟨hin, e⟩)
  next => exact hsame

theorem applyTerminal_events (hk : ∀ k, ¬ TermCfg.IntertripInput c k) : (s.applyTerminal i c).events = s.events := by
  rw [applyTerminal_fresh i c s hn]
  split
  next hin =>
    have hrest := (terminalTaken_handed i c s).rest h
    exact (handFirst_rest _ _ _ hrest).2.2 fun k e => hk k ⟨hin, e⟩
  next => rfl

omit h in
/-- An intertrip input hands its first level. -/
theorem applyTerminal_intertrip (k : Fin 6) (hk : TermCfg.IntertripInput c k) :
    s.applyTerminal i c = (terminalTaken i c s).setItTerminal k (c.mode.sampled (s.lines.getLsbD i.val)) := by
  obtain ⟨hin, hfn⟩ := hk
  rw [applyTerminal_fresh i c s hn, if_pos hin, hfn]
  rfl

/-- No terminal touches what a feeder kept, its lost mark or its intertrip_out. -/
theorem applyTerminal_marks (k : Fin 6) : KeepsMarks k s (s.applyTerminal i c) := by
  by_cases hk : TermCfg.IntertripInput c k
  · rw [applyTerminal_intertrip hn k hk]
    obtain ⟨_, _, _, hmarks, _⟩ := setItTerminal_feeder k (c.mode.sampled (s.lines.getLsbD i.val)) (terminalTaken i c s)
    exact ⟨hmarks.kept, hmarks.lost, hmarks.out⟩
  · exact (applyTerminal_sameFeeder h hn k hk).marks

end fresh

-- ===================================================================== one terminal after another (R168)

theorem applyTerminal_term (i j : Fin 16) (c : TermCfg) (s : State) :
    (s.applyTerminal i c).term[j].cfg = if j = i then c else s.term[j].cfg := by
  rw [(applyTerminal_reacts i c s).term]
  dsimp only
  split
  next e => rw [e, set_same, (apply_fresh _ _ _).1]
  next e => rw [set_other _ _ e]

section turns

variable {r : State} (hr : GroupsRest r) {P Q : State → Prop}
include hr

/-- Applied one after another from a state that r's terminals led to, each terminal finds its record without a function;
what every turn keeps holds at the end. -/
theorem terminals_keep (l : List (Fin 16)) (hl : l.Nodup) (s : State) (hrs : TerminalsHanded r s)
    (hn : ∀ i ∈ l, s.term[i].cfg.fn = .none) (hs : P s)
    (hstep : ∀ i ∈ l, ∀ u, TerminalsHanded r u → u.term[i].cfg.fn = .none → P u →
      P (u.applyTerminal i r.cfg.terminals[i])) :
    P (l.foldl (fun s t => s.applyTerminal t s.cfg.terminals[t]) s) := by
  induction l generalizing s with
  | nil => exact hs
  | cons a l ih =>
    obtain ⟨hal, hl⟩ := List.nodup_cons.1 hl
    have ha := hn a List.mem_cons_self
    rw [List.foldl_cons, hrs.cfg]
    refine ih hl _ (hrs.trans (applyTerminal_handed (hrs.rest hr) ha)) (fun i hi => ?_)
      (hstep a List.mem_cons_self s hrs ha hs) fun i hi => hstep i (List.mem_cons_of_mem a hi)
    rw [applyTerminal_term, if_neg fun e : i = a => hal (e ▸ hi)]
    exact hn i (List.mem_cons_of_mem a hi)

/-- What terminal t brings about from P, and the later ones keep, holds at the end. -/
theorem terminals_reach (t : Fin 16) (l : List (Fin 16)) (hl : l.Nodup) (htl : t ∈ l) (s : State)
    (hrs : TerminalsHanded r s) (hn : ∀ i ∈ l, s.term[i].cfg.fn = .none) (hs : P s)
    (hP : ∀ i u, TerminalsHanded r u → u.term[i].cfg.fn = .none → P u → P (u.applyTerminal i r.cfg.terminals[i]))
    (ht : ∀ u, TerminalsHanded r u → u.term[t].cfg.fn = .none → P u → Q (u.applyTerminal t r.cfg.terminals[t]))
    (hQ : ∀ i u, i ≠ t → TerminalsHanded r u → u.term[i].cfg.fn = .none → Q u →
      Q (u.applyTerminal i r.cfg.terminals[i])) :
    Q (l.foldl (fun s t => s.applyTerminal t s.cfg.terminals[t]) s) := by
  induction l generalizing s with
  | nil => exact absurd htl List.not_mem_nil
  | cons a l ih =>
    obtain ⟨hal, hl⟩ := List.nodup_cons.1 hl
    have ha := hn a List.mem_cons_self
    have hfirst := hrs.trans (applyTerminal_handed (c := r.cfg.terminals[a]) (hrs.rest hr) ha)
    have hrest (i : Fin 16) (hi : i ∈ l) : (s.applyTerminal a r.cfg.terminals[a]).term[i].cfg.fn = .none := by
      rw [applyTerminal_term, if_neg fun e : i = a => hal (e ▸ hi)]
      exact hn i (List.mem_cons_of_mem a hi)
    rw [List.foldl_cons, hrs.cfg]
    by_cases hat : a = t
    · rw [hat] at hal ha hfirst hrest ⊢
      exact terminals_keep hr l hl _ hfirst hrest (ht s hrs ha hs) fun i hi u =>
        hQ i u fun e : i = t => hal (e ▸ hi)
    · exact ih hl ((List.mem_cons.1 htl).resolve_left (Ne.symm hat)) _ hfirst hrest (hP a s hrs ha hs)

end turns

/-- Feeder k stands CLOSED and its intertrip_in is clear. -/
def IntertripAwaited (k : Fin 6) (s : State) : Prop := s.feeder[k].state = .closed ∧ s.sec[k].itIn = false

/-- An intertrip has opened the breaker of feeder k. -/
def IntertripTaken (k : Fin 6) (s : State) : Prop := s.feeder[k].state = .opening ∧ s.feeder[k].origin = .intertrip

section awaited

variable {i : Fin 16} {c : TermCfg} {k : Fin 6} {s : State} (h : GroupsRest s) (hn : s.term[i].cfg.fn = .none)
include h hn

/-- A terminal does nothing to a feeder that an intertrip has opened. -/
theorem intertripTaken_turn (ht : IntertripTaken k s) : IntertripTaken k (s.applyTerminal i c) := by
  obtain ⟨hst, ho⟩ := ht
  unfold IntertripTaken
  by_cases hk : TermCfg.IntertripInput c k
  · have hsame : ((terminalTaken i c s).setItTerminal k (c.mode.sampled (s.lines.getLsbD i.val))).feeder[k] =
        s.feeder[k] := (setItTerminal_feeder k _ (terminalTaken i c s)).1 (by
      have hf : (terminalTaken i c s).feeder[k] = s.feeder[k] := rfl
      rw [hf, hst]
      rfl)
    rw [applyTerminal_intertrip hn k hk, hsame]
    exact ⟨hst, ho⟩
  · rw [(applyTerminal_sameFeeder h hn k hk).feeder]
    exact ⟨hst, ho⟩

omit h in
/-- An intertrip input that is asserted trips a feeder that stands CLOSED. -/
theorem intertripAwaited_on (ha : IntertripAwaited k s) (hk : TermCfg.IntertripInput c k)
    (hon : c.mode.sampled (s.lines.getLsbD i.val) = true) : IntertripTaken k (s.applyTerminal i c) := by
  obtain ⟨hst, hi⟩ := ha
  rw [applyTerminal_intertrip hn k hk, hon]
  obtain ⟨_, _, htrip, _⟩ := setItTerminal_feeder k true (terminalTaken i c s)
  refine htrip ?_ hi rfl
  have hf : (terminalTaken i c s).feeder[k] = s.feeder[k] := rfl
  rw [hf, hst]
  rfl

/-- A terminal leaves a feeder that stands CLOSED as it is, or trips it. -/
theorem intertripAwaited_turn (ha : IntertripAwaited k s) :
    IntertripAwaited k (s.applyTerminal i c) ∨ IntertripTaken k (s.applyTerminal i c) := by
  by_cases hk : TermCfg.IntertripInput c k
  · cases hon : c.mode.sampled (s.lines.getLsbD i.val) with
    | true => exact .inr (intertripAwaited_on hn ha hk hon)
    | false =>
      obtain ⟨hst, hi⟩ := ha
      obtain ⟨htel, -⟩ := Bool.or_eq_false_iff.1 hi
      obtain ⟨_, hoff, _, _, hkeep⟩ := setItTerminal_feeder k false (terminalTaken i c s)
      have hfeeder := hoff (.inr (Bool.or_eq_false_iff.2 ⟨htel, rfl⟩))
      have hterm := setItTerminal_itTerminal k k false (terminalTaken i c s)
      rw [if_pos rfl] at hterm
      rw [applyTerminal_intertrip hn k hk, hon]
      exact .inl ⟨(congrArg Feeder.state hfeeder).trans hst, Bool.or_eq_false_iff.2 ⟨hkeep.trans htel, hterm⟩⟩
  · obtain ⟨hf, -, hsec⟩ := applyTerminal_sameFeeder (c := c) h hn k hk
    unfold IntertripAwaited
    rw [hf, hsec]
    exact .inl ha

end awaited

theorem terminals16_nodup : terminals16.Nodup := by decide

theorem mem_terminals16 (t : Fin 16) : t ∈ terminals16 := (by decide : ∀ t : Fin 16, t ∈ terminals16) t

section applied

variable {s : State} (hr : GroupsRest s) (hn : ∀ t : Fin 16, s.term[t].cfg.fn = .none)
include hr hn

theorem applyTerminals_handed : TerminalsHanded s s.applyTerminals :=
  terminals_keep (P := TerminalsHanded s) hr terminals16 terminals16_nodup s (.refl s) (fun i _ => hn i) (.refl s)
    fun _ _ _ hu hnu h => h.trans (applyTerminal_handed (hu.rest hr) hnu)

theorem applyTerminals_marks (k : Fin 6) : KeepsMarks k s s.applyTerminals :=
  terminals_keep (P := KeepsMarks k s) hr terminals16 terminals16_nodup s (.refl s) (fun i _ => hn i) (.refl s)
    fun _ _ _ hu hnu h => h.trans (applyTerminal_marks (hu.rest hr) hnu k)

/-- A feeder without an intertrip input is left as it is. -/
theorem applyTerminals_sameFeeder (k : Fin 6) (hk : ∀ t : Fin 16, ¬ TermCfg.IntertripInput s.cfg.terminals[t] k) :
    SameFeeder k s s.applyTerminals :=
  terminals_keep (P := SameFeeder k s) hr terminals16 terminals16_nodup s (.refl s) (fun i _ => hn i) (.refl k s)
    fun i _ _ hu hnu h => h.trans (applyTerminal_sameFeeder (hu.rest hr) hnu k (hk i))

theorem applyTerminals_events (hk : ∀ (t : Fin 16) (k : Fin 6), ¬ TermCfg.IntertripInput s.cfg.terminals[t] k) :
    s.applyTerminals.events = s.events :=
  terminals_keep (P := fun u => u.events = s.events) hr terminals16 terminals16_nodup s (.refl s) (fun i _ => hn i) rfl
    fun i _ _ hu hnu h => (applyTerminal_events (hu.rest hr) hnu (hk i)).trans h

theorem applyTerminals_term (t : Fin 16) : s.applyTerminals.term[t].cfg = s.cfg.terminals[t] := by
  refine terminals_reach (P := fun _ => True) (Q := fun u => u.term[t].cfg = s.cfg.terminals[t]) hr t terminals16
    terminals16_nodup (mem_terminals16 t) s (.refl s) (fun i _ => hn i) trivial (fun _ _ _ _ _ => trivial)
    (fun u _ _ _ => ?_) fun i u hi _ _ hu => ?_
  · rw [applyTerminal_term, if_pos rfl]
  · rw [applyTerminal_term, if_neg (Ne.symm hi)]
    exact hu

/-- An intertrip input asserted trips a feeder that stands CLOSED (R52, R69). -/
theorem applyTerminals_intertrip (k : Fin 6) (t : Fin 16) (hk : TermCfg.IntertripInput s.cfg.terminals[t] k)
    (hon : s.cfg.terminals[t].mode.sampled (s.lines.getLsbD t.val) = true) (hc : s.feeder[k].state = .closed)
    (hi : s.sec[k].itIn = false) :
    IntertripTaken k s.applyTerminals :=
  terminals_reach (P := fun u => IntertripAwaited k u ∨ IntertripTaken k u) (Q := IntertripTaken k) hr t terminals16
    terminals16_nodup (mem_terminals16 t) s (.refl s) (fun i _ => hn i) (.inl ⟨hc, hi⟩)
    (fun _ _ hu hnu h => h.elim (intertripAwaited_turn (hu.rest hr) hnu) fun h =>
      .inr (intertripTaken_turn (hu.rest hr) hnu h))
    (fun u hu hnu h => h.elim (fun h => intertripAwaited_on hnu h hk (by rw [hu.lines]; exact hon))
      (intertripTaken_turn (hu.rest hr) hnu))
    fun _ _ _ hu hnu => intertripTaken_turn (hu.rest hr) hnu

end applied

-- ===================================================================== the end of START (R137, R139)

/-- The station mode and its cause at the end of START. -/
def startCause (s : State) : ModeCause := if addressInvalid s.sts.address then .addressInvalid else .startEnd

/-- The station record at the end of START. -/
def startedSts (s : State) : Sts :=
  { s.sts with
    complete := true, mode := if s.sts.mode = .start then .standby else s.sts.mode, supTimer := s.station.supervision }

/-- The state at the end of START before the terminals take their settings. -/
def started (s : State) : State :=
  { s.adoptAll with
    sts := startedSts s
    events :=
      if s.sts.mode = .start then
        pushEvent s.adoptAll.events
          (s.event .sts 0 .stationMode (uword Mode.standby.code) (uword (modeCauseCode (startCause s))) .none)
      else s.adoptAll.events }

theorem startTaken_eq (s : State) (hdue : s.startDue = true) (hf : ∀ g : Fin 2, s.group[g].state.fires = false)
    (hb : ∀ g : Fin 2, s.group[g].state ≠ .blocked) : s.startTaken = (started s).applyTerminals := by
  have hacts : FeederActs s s.adoptAll := (FeederActs.refl s).adoptAll
  have hevent : s.adoptAll.event = s.event := hacts.reacts.event
  unfold State.startTaken started startedSts startCause
  rw [if_pos hdue, ← hacts.sts, ← hevent]
  have hstation : s.station = s.adoptAll.station := by
    unfold State.station
    rw [hacts.reacts.sst]
  rw [hstation]
  have hgroup := hacts.group
  generalize s.adoptAll = a at hgroup
  rw [← hgroup] at hf hb
  by_cases hm : a.sts.mode = .start
  · have hmode (why : ModeCause) : (a.setSts { a.sts with complete := true }).changeMode .standby why =
        ((a.setSts { a.sts with complete := true, mode := .standby }).logSts .stationMode (uword Mode.standby.code)
          (uword (modeCauseCode why))) := groupsOnMode_rest _ hf hb
    dsimp only
    rw [if_pos hm, if_pos hm, if_pos (by exact hm), hmode]
    rfl
  · dsimp only
    rw [if_neg hm, if_neg hm, if_neg (by exact hm)]
    rfl

/-- Adoption and the change of mode touch neither the groups, the acquisition nor the partners, and no setting. -/
theorem started_frame (s : State) :
    (started s).group = s.group ∧ (started s).aqu = s.aqu ∧ (started s).sst = s.sst ∧ (started s).sync = s.sync ∧
    (started s).link = s.link ∧ (started s).cmp = s.cmp ∧ (started s).uset = s.uset ∧
    (started s).elapsed = s.elapsed ∧ (started s).bfb = s.bfb ∧ (started s).term = s.term ∧
    (started s).lines = s.lines := by
  have hacts := (FeederActs.refl s).adoptAll
  unfold started
  generalize s.adoptAll = a at hacts
  obtain ⟨_, _, _, _, _, rfl⟩ := hacts.frame
  exact ⟨rfl, rfl, rfl, rfl, rfl, rfl, rfl, rfl, rfl, rfl, rfl⟩

/-- The groups are at rest through START and at its end. -/
theorem started_rest (s : State) (hm : s.sts.mode = .start ∨ s.sts.mode = .safe)
    (hg : ∀ g : Fin 2, s.group[g].state.fires = false ∧ s.group[g].state ≠ .blocked) : GroupsRest (started s) := by
  obtain ⟨hgroup, -⟩ := started_frame s
  refine ⟨?_, fun g => ?_, fun g => ?_⟩
  · obtain hm | hm := hm <;> simp [started, startedSts, hm, Mode.feeds]
  · rw [hgroup]
    exact (hg g).1
  · rw [hgroup]
    exact (hg g).2

theorem started_grow (s : State) : EventsGrow s.events (started s).events := by
  have hgrow := (FeederActs.refl s).adoptAll.grow
  unfold started
  generalize s.adoptAll = a at hgrow
  dsimp only
  split
  · exact hgrow.push _
  · exact hgrow

/-- In START with nothing kept the one event is the change of mode. -/
theorem started_events (s : State) (hm : s.sts.mode = .start) (hk : ∀ k : Fin 6, s.feeder[k].kept = []) (a : Byte)
    (ha : s.sts.address = some a) :
    (started s).events = pushEvent s.events (s.event .sts 0 .stationMode 1
      (BitVec.ofNat 16 (modeCauseCode
        (if a.toNat = 0 ∨ 250 < a.toNat then .addressInvalid else .startEnd))) .none) := by
  have hcause : startCause s = if a.toNat = 0 ∨ 250 < a.toNat then .addressInvalid else .startEnd := by
    unfold startCause
    rw [ha]
    simp [addressInvalid]
  have hquiet := adoptAll_quiet s (by rw [hm]; decide) hk
  unfold started
  generalize s.adoptAll = a at hquiet
  dsimp only
  rw [if_pos hm, hquiet, hcause]
  rfl

/-- Each feeder at the end of START, before the terminals act. -/
theorem started_feeder (k : Fin 6) (s : State) (ho : s.feeder[k].state = .open) :
    ∃ v, StartActed k s.bfb[k].reported ((s.general k).tReclaim * 1000) s.disc[k].windowOpen s.feeder[k].kept v ∧
      (started s).feeder[k] = v.feeder[k] ∧ (started s).disc[k] = v.disc[k] ∧
      (started s).sec[k].itOut = (if s.sts.mode = .safe then true else v.sec[k].itOut) ∧
      (started s).sec[k].itIn = s.sec[k].itIn := by
  have hadopted := adoptAll_acted k s ho
  unfold started
  generalize s.adoptAll = a at hadopted
  exact hadopted

/-- Settles O44: the adoption of each feeder and what it kept, the station's change of mode, then the terminals in
turn. -/
theorem startEndsInStandby : Obligations.StartEndsInStandby := by
  intro s hstart hc ha h16 hactivity input
  obtain ⟨-, hmode, hfeeder, hgroup, hfn⟩ := hstart hc
  have hdue : s.startDue = true := by
    unfold State.startDue
    rw [hc]
    simp [Option.isSome_iff_ne_none, ha, h16, hactivity]
  have hexec : exec .startComplete s = .next s.startTaken := rfl
  rw [hexec, startTaken_eq s hdue (fun g => (hgroup g).1) (fun g => (hgroup g).2)]
  have hrest := started_rest s hmode hgroup
  obtain ⟨hg, haqu, hsst, hsync, hlink, hcmp, huset, helapsed, hbfb, hterm, hlines⟩ := started_frame s
  have hsts : (started s).sts = startedSts s := rfl
  have hgrow := started_grow s
  have hevents := started_events s
  have hadopted (k : Fin 6) := started_feeder k s (hfeeder k).1
  generalize started s = w at *
  have hcfg : w.cfg = s.cfg := congrArg Sst.live hsst
  have hn (t : Fin 16) : w.term[t].cfg.fn = .none := by
    rw [hterm]
    exact hfn t
  have hhanded := applyTerminals_handed hrest hn
  have hsts := hhanded.sts.trans hsts
  refine ⟨w.applyTerminals, rfl, ?complete, ?mode, fun k => ?feeders, ?timer, fun t => ?terminals,
    fun hm hk hno a haddr => ?events, hgrow.trans hhanded.grow, fun g => ?groups, ?frame⟩
  case complete => rw [hsts]; rfl
  case mode =>
    rw [hsts]
    obtain hm | hm := hmode <;> simp [startedSts, hm]
  case timer => rw [hsts]; rfl
  case terminals => rw [applyTerminals_term hrest hn, hcfg]
  case events =>
    rw [applyTerminals_events hrest hn (by rw [hcfg]; exact hno)]
    exact hevents hm hk a haddr
  case groups => rw [hhanded.groups, hg]
  case frame =>
    obtain ⟨_, _, _, _, _, _, _, hframe⟩ := hhanded.frame
    rw [hframe]
    exact ⟨haqu, hsst, hsync, hlink, hcmp, huset, helapsed, hbfb⟩
  case feeders =>
    obtain ⟨v, hv, hvf, hvd, hvout, hvin⟩ := hadopted k
    have hmarks := applyTerminals_marks hrest hn k
    refine ⟨?_, fun hm => ?_, fun hm hb => ?_, fun hvolt => ?_, fun hno => ?_, fun t ht hon hin hk hb => ?_⟩
    · rw [hmarks.kept, hvf, hv.kept]
    · rw [hmarks.out, hvout, if_pos hm]
    · rw [hmarks.out, hvout, if_neg (by rw [hm]; decide), hv.out hb]
    · rw [hmarks.lost, hvf, hv.lost hvolt]
    · have hsame := applyTerminals_sameFeeder hrest hn k (by rw [hcfg]; exact hno)
      rw [hsame.feeder, hsame.disc, hvf, hvd]
      exact ⟨hv.failed, hv.tripped, hv.plain⟩
    · rw [hk] at hv
      obtain ⟨hst, -⟩ := hv.plain List.not_mem_nil List.not_mem_nil
      rw [if_pos hb] at hst
      exact applyTerminals_intertrip hrest hn k t (by rw [hcfg]; exact ht) (by rw [hcfg, hlines]; exact hon)
        (by rw [hvf]; exact hst) (hvin.trans hin)

end Sys2Proof.Proofs
end

section
/-! The supervision of the station computer (R128, R152, R153): its absence at the expiry of the timer, and its return with
the next request that counts. -/
namespace Sys2Proof.Proofs

open Sys2Proof Sys2Proof.Machine Sys2Proof.Laws

/-- The expiry of a supervision timer that has run out. -/
theorem hostLost_expired {s : State} (h : s.sts.supTimer = some 0) :
    s.hostLost = { s with
      sts := { s.sts with present := false, supTimer := none, absentSince := s.elapsed }
      uset := s.station.uset
      events := pushEvent s.events
        (s.event .sts 0 .hostAbsent (uword s.station.hostSupervision) 0 .none) } := by
  unfold State.hostLost
  rw [if_pos ((expired_iff _).2 h)]
  rfl

theorem hostLost_running {s : State} (h : s.sts.supTimer ≠ some 0) : s.hostLost = s :=
  if_neg fun he => h ((expired_iff _).1 he)

/-- An absent station computer limits the attempts to one (R153). -/
theorem effectiveLimit_absent {s : State} (h : s.sts.present = false) (k : Fin 6) :
    s.effectiveLimit k = min (s.general k).nAr 1 := by
  unfold State.effectiveLimit
  rw [h]
  rfl

/-- The state after a free port has received a request from a station computer that was ABSENT (R152): HOST_PRESENT with
the seconds of the absence. -/
def returned (s : State) : State :=
  { s.heard with
    sts := { s.heard.sts with present := true }
    events := pushEvent s.events
      (s.event .sts 0 .hostPresent
        (BitVec.ofNat 16 (min 65535 ((s.elapsed - s.sts.absentSince).toNat / 1000))) 0 .none) }

theorem hostHeard_absent {s : State} (h : s.sts.present = false) :
    (s.setCmp { s.cmp with receiving := false, rx := [] }).hostHeard = returned s := by
  unfold State.hostHeard
  dsimp only
  rw [State.setCmp_sts, if_neg (by rw [h]; decide)]
  rfl

/-- A request that finds the station computer ABSENT is taken like any other, after its return. -/
theorem answers_of_absent {c : Instr} {kind tag : Byte} {pl : List Byte} {answer : State → Answer} {s t : State}
    {st : Status} {p : Payload} (hq : s.quiet = true) (habsent : s.sts.present = false) (hreply : s.cmp.reply = none)
    (hrestart : s.cmp.restartPending = false) (hc : exec c s = .next (s.settle.request kind tag pl answer))
    (hf : payloadFits pl = true) (ha : answer (returned s) = { state := t, status := st, payload := p }) :
    Answers c s kind tag t st p := by
  have hh := hostHeard_absent habsent
  have ht := takeRequest_free kind tag answer (s.setCmp { s.cmp with receiving := false, rx := [] })
    (by rw [hh]; exact hrestart) (by rw [hh]; exact hreply)
  rw [Answers, hc, settle_of_quiet hq, State.request, if_pos hf]
  dsimp only
  rw [ht, hh, ha]
  rfl

/-- Settles O48: the expiry by its two equations, and Read Energy as the request that ends the absence. -/
theorem hostAbsenceAndReturn : Obligations.HostAbsenceAndReturn := by
  refine fun tag s hq => ⟨fun hrun => ?running, fun hexp => ?expired, fun habsent hreply hrestart => ?returns⟩
  case running => exact next_settled hq (hostLost_running hrun)
  case expired => exact ⟨_, next_settled hq (hostLost_expired hexp), rfl, effectiveLimit_absent rfl⟩
  case returns =>
    exact answers_of_absent hq habsent hreply hrestart rfl (payloadFits_of_length 0 rfl) rfl

end Sys2Proof.Proofs
end

section
/-! The sync of a rectifier group (R113..R115): the cycles it judges, its loss, which blocks a group that fires (R125, R186),
and its lock, which can start one (R122). -/
namespace Sys2Proof.Proofs

open Sys2Proof Sys2Proof.Machine Sys2Proof.Laws

-- ===================================================================== cycles (R113, R114, R115)

theorem cycleInRange_iff (len : Nat) (seen : Seen) :
    cycleInRange len seen = true ↔ seen = .bc ∧ 18180 ≤ len ∧ len ≤ 22220 := by
  simp only [cycleInRange, Bool.and_eq_true, decide_eq_true_eq, beq_iff_eq, and_comm]

/-- A cycle in range gives the period and counts toward the lock. -/
theorem judge_inRange (r : SyncRec) {len : Nat} (h : cycleInRange len r.seen = true) :
    r.judge len = { r with
      period := some len
      good := if r.locked = true then r.good else min 5 (r.good + 1)
      bad := if r.locked = true then 0 else r.bad } := by
  unfold SyncRec.judge
  rw [if_pos h]
  cases hl : r.locked <;> simp

/-- Any other cycle counts against it. -/
theorem judge_outOfRange (r : SyncRec) {len : Nat} (h : cycleInRange len r.seen = false) :
    r.judge len = { r with
      good := if r.locked = true then r.good else 0
      bad := if r.locked = true then min 2 (r.bad + 1) else r.bad } := by
  unfold SyncRec.judge
  rw [if_neg (Bool.eq_false_iff.1 h)]
  cases hl : r.locked <;> simp

theorem crossA_first (r : SyncRec) (time : Nat) (h : r.lastCross = none) :
    r.crossA time = { r with lastCross := some time, prevCross := none, crossTimer := some 40000, seen := .nothing } := by
  unfold SyncRec.crossA
  rw [h]
  dsimp only
  rw [h]

theorem crossA_cycle (r : SyncRec) (time last : Nat) (h : r.lastCross = some last) :
    r.crossA time = { r.judge (time - last) with
      lastCross := some time, prevCross := some last, crossTimer := some 40000, seen := .nothing } := by
  have hlast : (r.judge (time - last)).lastCross = some last := by
    unfold SyncRec.judge
    cases cycleInRange (time - last) r.seen <;> cases r.locked <;> exact h
  unfold SyncRec.crossA
  rw [h]
  dsimp only
  rw [hlast]

/-- The group's record at a crossing of phase A: the cycle of a next thyristor that has waited begins. -/
theorem beginCycle_eq (r : GroupRec) (time : Nat) :
    r.beginCycle time = { r with anchor := if r.begun = true ∧ r.anchor = none then some time else r.anchor } := by
  simp only [GroupRec.beginCycle, Bool.and_eq_true, Option.isNone_iff_eq_none]

theorem seen_cross_b (v : Seen) : v.cross .b = if v = .nothing then .b else .wrong := by cases v <;> rfl
theorem seen_cross_c (v : Seen) : v.cross .c = if v = .b then .bc else .wrong := by cases v <;> rfl

section crossing

variable {s : State} (hq : s.quiet = true) (g : Fin 2) (time : Nat)
include hq

theorem syncCrossing_unsupervised (h : s.aqu.clock ≠ .good) (ph : Phase) :
    exec (.syncCrossing g ph time) s = .next s := next_settled hq (if_pos h)

/-- A crossing of phase A: the group's record and the sync's. -/
theorem syncCrossing_a (h : s.aqu.clock = .good) {y : SyncRec} (hy : s.sync[g].crossA time = y) :
    exec (.syncCrossing g .a time) s = .next { s with
      group := s.group.set g { s.group[g] with
        anchor := if s.group[g].begun = true ∧ s.group[g].anchor = none then some time else s.group[g].anchor }
      sync := s.sync.set g y } := by
  refine next_settled hq ?_
  unfold State.crossing
  rw [if_neg (not_not.2 h), ← beginCycle_eq, ← hy]
  rfl

/-- A crossing of phase B or C is seen, and nothing else changes. -/
theorem syncCrossing_b (h : s.aqu.clock = .good) :
    exec (.syncCrossing g .b time) s = .next { s with
      sync := s.sync.set g { s.sync[g] with seen := if s.sync[g].seen = .nothing then .b else .wrong } } := by
  refine next_settled hq ?_
  unfold State.crossing
  rw [if_neg (not_not.2 h), ← seen_cross_b]
  rfl

theorem syncCrossing_c (h : s.aqu.clock = .good) :
    exec (.syncCrossing g .c time) s = .next { s with
      sync := s.sync.set g { s.sync[g] with seen := if s.sync[g].seen = .b then .bc else .wrong } } := by
  refine next_settled hq ?_
  unfold State.crossing
  rw [if_neg (not_not.2 h), ← seen_cross_c]
  rfl

end crossing

-- ===================================================================== a cause blocks a group (R124, R125, R186)

/-- The record of a group that fires as a cause takes it to BLOCKED. -/
def blockedRec (c : GCause) (r : GroupRec) : GroupRec := { r with blockCause := some c }.take .blocked

/-- A cause handed to a group that fires: BLOCKED, the trigger GROUP_BLOCK, and GROUP_STATE with its answer. -/
theorem blockGroup_firing {g : Fin 2} {s : State} (h : s.group[g].state.fires = true) (c : GCause) :
    s.blockGroup g c = { s with
      group := s.group.set g (blockedRec c s.group[g])
      events := pushEvent s.events
        (s.event .rcu (g.val + 1) .groupState (pair (g.val + 1) GState.blocked.code) (uword (gReasonCode (.cause c)))
          (s.trigger srcGroupBlock).2)
      cap := (s.trigger srcGroupBlock).1.cap } := by
  unfold State.blockGroup blockedRec
  rw [if_pos h]
  obtain ⟨p, hp⟩ := trigger_spec srcGroupBlock s
  dsimp only
  rw [moveGroup_spec, State.setGroupRec_self, hp]
  generalize (s.trigger srcGroupBlock).2 = ref
  simp [State.setGroupRec, State.event]

/-- The same from a state whose capture store, record and time are those of s. -/
theorem blockGroup_firing_of {g : Fin 2} {s t : State} (hsame : SameCapture s t) (h : t.group[g].state.fires = true)
    (c : GCause) :
    t.blockGroup g c = { t with
      group := t.group.set g (blockedRec c t.group[g])
      events := pushEvent t.events
        (t.event .rcu (g.val + 1) .groupState (pair (g.val + 1) GState.blocked.code) (uword (gReasonCode (.cause c)))
          (s.trigger srcGroupBlock).2)
      cap := (s.trigger srcGroupBlock).1.cap } := by
  obtain ⟨hcap, href⟩ := hsame.trigger srcGroupBlock
  rw [blockGroup_firing h, hcap.cap, href]

-- ===================================================================== the sync lost (R114, R125)

/-- s with group g BLOCKED by the loss of its sync, whose record then is y. -/
def syncBlocked (g : Fin 2) (y : SyncRec) (s : State) : State :=
  { s with
    sync := s.sync.set g y
    group := s.group.set g (blockedRec .syncLost s.group[g])
    events := pushEvent s.events
      (s.event .rcu (g.val + 1) .groupState (pair (g.val + 1) GState.blocked.code)
        (uword (gReasonCode (.cause .syncLost))) (s.trigger srcGroupBlock).2)
    cap := (s.trigger srcGroupBlock).1.cap }

theorem syncLost_firing {g : Fin 2} {s : State} (h : s.group[g].state.fires = true) :
    s.syncLost g = syncBlocked g { s.sync[g] with locked := false, good := 0 } s :=
  blockGroup_firing_of (s := s) (t := s.setSyncRec g { s.sync[g] with locked := false, good := 0 })
    ⟨rfl, rfl, rfl, rfl⟩ h .syncLost

/-- The crossing timer's loss of the cycle: the crossings seen are forgotten. -/
def cycleLost (y : SyncRec) : SyncRec := { y with lastCross := none, prevCross := none, crossTimer := none, seen := .nothing }

/-- A crossing timer that has run out, by the state of the sync. -/
theorem crossingExpiry_eq {g : Fin 2} {s : State} (hc : s.aqu.clock = .good) (ht : s.sync[g].crossTimer = some 0) :
    s.crossingExpiry g =
      if s.sync[g].locked = true then (s.setSyncRec g (cycleLost s.sync[g])).syncLost g
      else s.setSyncRec g { cycleLost s.sync[g] with good := 0 } := by
  have hself := State.setSyncRec_self g (cycleLost s.sync[g]) s
  unfold State.crossingExpiry
  rw [if_pos ⟨hc, (expired_iff _).2 ht⟩]
  change (if (s.setSyncRec g (cycleLost s.sync[g])).sync[g].locked = true then _ else
    (s.setSyncRec g (cycleLost s.sync[g])).setSyncRec g
      { (s.setSyncRec g (cycleLost s.sync[g])).sync[g] with good := 0 }) = _
  rw [hself]
  refine if_congr .rfl rfl ?_
  simp [State.setSyncRec]

theorem crossingExpiry_locked {g : Fin 2} {s : State} (hc : s.aqu.clock = .good) (ht : s.sync[g].crossTimer = some 0)
    (hl : s.sync[g].locked = true) (hf : s.group[g].state.fires = true) :
    s.crossingExpiry g = syncBlocked g { cycleLost s.sync[g] with locked := false, good := 0 } s := by
  rw [crossingExpiry_eq hc ht, if_pos hl, syncLost_firing (by exact hf), State.setSyncRec_self]
  unfold syncBlocked
  rw [State.setSyncRec_sync, Vector.set_set]
  obtain ⟨hcap, href⟩ := (show SameCapture s (s.setSyncRec g (cycleLost s.sync[g])) from ⟨rfl, rfl, rfl, rfl⟩).trigger
    srcGroupBlock
  rw [hcap.cap, href]
  rfl

-- ===================================================================== the sync locked (R114, R122)

theorem anyCause_false_iff (s : State) (g : Fin 2) :
    s.anyCause g = false ↔ s.group[g].overcurrent = false ∧ s.group[g].temp = false ∧ s.group[g].channel = false ∧
      s.sync[g].locked = true := by
  simp only [State.anyCause, Bool.or_eq_false_iff, Bool.not_eq_false', and_assoc]

theorem startTest_starts {g : Fin 2} {s : State} (ho : s.group[g].state = .off) (hm : s.sts.mode.feeds = true)
    (hc : s.anyCause g = false) : s.startTest g = s.moveGroup g .starting .start .none :=
  if_pos ⟨ho, hm, by rw [hc]; rfl⟩

theorem startTest_stays {g : Fin 2} {s : State}
    (h : s.group[g].state ≠ .off ∨ s.sts.mode.feeds = false ∨ s.anyCause g = true) : s.startTest g = s := by
  refine if_neg fun ⟨ho, hm, hc⟩ => ?_
  obtain h | h | h := h
  · exact h ho
  · rw [h] at hm
    cases hm
  · rw [h] at hc
    cases hc

theorem restartTest_stays {g : Fin 2} {s : State}
    (h : s.group[g].state ≠ .blocked ∨ s.anyCause g = true) : s.restartTest g = s := by
  refine if_neg fun ⟨hb, _, hc, _⟩ => ?_
  obtain h | h := h
  · exact h hb
  · rw [h] at hc
    cases hc

/-- The last cause of a group in OFF cleared with the station feeding: it starts. -/
theorem groupCauseCleared_off {g : Fin 2} {s : State} (ho : s.group[g].state = .off) (hm : s.sts.mode.feeds = true)
    (hc : s.anyCause g = false) : s.groupCauseCleared g = s.moveGroup g .starting .start .none := by
  unfold State.groupCauseCleared
  rw [startTest_starts ho hm hc]
  refine restartTest_stays (.inl ?_)
  rw [moveGroup_group, set_same, take_state]
  decide

theorem syncChange_lost {g : Fin 2} {s : State} (hl : s.sync[g].locked = true) (hb : s.sync[g].bad = 2) :
    s.syncChange g = s.syncLost g := by
  have hdue : s.syncChangeDue g = true := (if_pos hl).trans (beq_iff_eq.2 hb)
  exact (if_pos hdue).trans (if_pos hl)

theorem syncChange_locks {g : Fin 2} {s : State} (hl : s.sync[g].locked = false) (hg : s.sync[g].good = 5) :
    s.syncChange g = (s.setSyncRec g { s.sync[g] with locked := true, bad := 0 }).groupCauseCleared g := by
  have hn : ¬ s.sync[g].locked = true := Bool.eq_false_iff.1 hl
  have hdue : s.syncChangeDue g = true := (if_neg hn).trans (beq_iff_eq.2 hg)
  exact (if_pos hdue).trans (if_neg hn)

/-- Settles O38: the crossings by what each makes of the sync's record, the losses by the one way a cause blocks a group,
the lock by the start test. -/
theorem syncSupervisionMovesGroup : Obligations.SyncSupervisionMovesGroup := by
  refine ⟨fun g time s hq => ⟨fun hc ph => syncCrossing_unsupervised hq g time hc ph, fun hc => ?crossing⟩,
    fun g s hl hf => ?lost, fun g s hq => ⟨fun hn => ?idle, fun hc ht hl => ?unlocked⟩,
    fun g s hl hg ho hm hover htemp hchannel => ?locks⟩
  case crossing =>
    refine ⟨fun hfirst => syncCrossing_a hq g time hc (crossA_first _ time hfirst), fun last hlast hseen hlo hhi => ?_,
      fun last hlast hbad => ?_, syncCrossing_b hq g time hc, syncCrossing_c hq g time hc⟩
    · refine syncCrossing_a hq g time hc ?_
      rw [crossA_cycle _ time last hlast, judge_inRange _ ((cycleInRange_iff _ _).2 ⟨hseen, hlo, hhi⟩)]
    · have hout : cycleInRange (time - last) s.sync[g].seen = false := Bool.eq_false_iff.2 fun h => by
        obtain ⟨hseen, hlo, hhi⟩ := (cycleInRange_iff _ _).1 h
        obtain hbad | hbad | hbad := hbad
        · exact hbad hseen
        · exact Nat.not_lt.2 hlo hbad
        · exact Nat.not_lt.2 hhi hbad
      refine syncCrossing_a hq g time hc ?_
      rw [crossA_cycle _ time last hlast, judge_outOfRange _ hout]
  case lost =>
    have hblocked (y : SyncRec) (h : Fin 2) (hh : h ≠ g) :
        (syncBlocked g y s).group[h] = s.group[h] ∧ (syncBlocked g y s).sync[h] = s.sync[h] :=
      ⟨set_other _ _ hh, set_other _ _ hh⟩
    refine ⟨fun hb => ⟨_, congrArg Host.Outcome.next ((syncChange_lost hl hb).trans (syncLost_firing hf)),
      ⟨set_same .., rfl, hblocked _, rfl⟩, set_same ..⟩, fun hq hc ht => ⟨_, next_settled hq
      (crossingExpiry_locked hc ht hl hf), ⟨set_same .., rfl, hblocked _, rfl⟩, set_same ..⟩⟩
  case idle =>
    refine next_settled hq (if_neg fun ⟨hc, ht⟩ => ?_)
    obtain h | h := hn
    · exact h hc
    · exact h ((expired_iff _).1 ht)
  case unlocked =>
    exact next_settled hq ((crossingExpiry_eq hc ht).trans (if_neg (Bool.eq_false_iff.1 hl)))
  case locks =>
    have hno : (s.setSyncRec g { s.sync[g] with locked := true, bad := 0 }).anyCause g = false :=
      (anyCause_false_iff _ g).2 ⟨hover, htemp, hchannel, by rw [State.setSyncRec_self]⟩
    exact congrArg Host.Outcome.next ((syncChange_locks hl hg).trans
      (groupCauseCleared_off (by exact ho) ((feeds_iff _).2 hm) hno))

end Sys2Proof.Proofs
end

section
/-! What a change of the station mode makes of each group (R122, R127), the count of available groups (R121, R141), and the
restarts of a group that an overcurrent has blocked (R124..R126). -/
namespace Sys2Proof.Proofs

open Sys2Proof Sys2Proof.Machine Sys2Proof.Laws

-- ===================================================================== a change of mode (R122, R127)

theorem set_self {α : Type} {n : Nat} (v : Vector α n) (k : Fin n) : v.set k v[k] = v := Vector.set_getElem_self _

/-- A group's record as a station mode that is entered leaves it; cause says whether it has a present cause. -/
def onMode (m : Mode) (cause : Bool) (r : GroupRec) : GroupRec :=
  if m.feeds = true then (if r.state = .off ∧ cause = false then r.take .starting else r)
  else if m ≠ .start ∧ (r.state.fires = true ∨ r.state = .blocked) then r.take .off else r

theorem onMode_feeds {m : Mode} (h : m.feeds = true) (cause : Bool) (r : GroupRec) :
    onMode m cause r = if r.state = .off ∧ cause = false then r.take .starting else r := if_pos h

theorem onMode_stops {m : Mode} (h : m = .standby ∨ m = .safe) (cause : Bool) (r : GroupRec) :
    onMode m cause r = if r.state.fires = true ∨ r.state = .blocked then r.take .off else r := by
  obtain rfl | rfl := h <;> exact (if_neg (by decide)).trans (if_congr (and_iff_right (by decide)) rfl rfl)

theorem onMode_locked (m : Mode) (cause : Bool) (r : GroupRec) (h : r.state = .locked) : onMode m cause r = r := by
  unfold onMode
  simp [h, GState.fires]

/-- The start test, as a mode that feeds has it made. -/
theorem startTest_eq {m : Mode} (hm : m.feeds = true) (g : Fin 2) (s : State) (hs : s.sts.mode = m) :
    (s.startTest g).group = s.group.set g (onMode m (s.anyCause g) s.group[g]) := by
  rw [onMode_feeds hm]
  by_cases h : s.group[g].state = .off ∧ s.anyCause g = false
  · rw [if_pos h, startTest_starts h.1 (by rw [hs]; exact hm) h.2, moveGroup_group]
  · rw [if_neg h, set_self]
    refine congrArg State.group (startTest_stays ?_)
    obtain h | h := not_and_or.1 h
    · exact .inl h
    · exact .inr (.inr (Bool.not_eq_false _ ▸ h))

/-- A group that leaves its state where the mode m says so. -/
theorem groupOnMode_eq (m : Mode) (g : Fin 2) (s : State) (hs : s.sts.mode = m) :
    (s.groupOnMode m g).group = s.group.set g (onMode m (s.anyCause g) s.group[g]) := by
  have hself : s.group.set g s.group[g] = s.group := set_self ..
  have hleave (why : GReason) : (if s.group[g].state.fires = true ∨ s.group[g].state = .blocked then
      s.moveGroup g .off why .none else s).group =
      s.group.set g (if s.group[g].state.fires = true ∨ s.group[g].state = .blocked then s.group[g].take .off
        else s.group[g]) := by
    split
    · rfl
    · exact hself.symm
  cases m with
  | start => exact hself.symm
  | normal | reduced => exact startTest_eq rfl g s hs
  | standby => rw [onMode_stops (.inl rfl)]; exact hleave .standby
  | safe => rw [onMode_stops (.inr rfl)]; exact hleave .safe

/-- Every group takes the mode from the record it had. -/
theorem changeMode_group (m : Mode) (why : ModeCause) (g : Fin 2) (s : State) :
    (s.changeMode m why).group[g] = onMode m (s.anyCause g) s.group[g] := by
  unfold State.changeMode State.groupsOnMode
  generalize hu : (s.setSts { s.sts with mode := m }).logSts .stationMode (uword m.code) (uword (modeCauseCode why)) = u
  have hgroup : u.group = s.group := by rw [← hu]; rfl
  have hmode : u.sts.mode = m := by rw [← hu]; rfl
  have hcause (g : Fin 2) : u.anyCause g = s.anyCause g := by rw [← hu]; rfl
  obtain ⟨r, e, hfirst⟩ := groupOnMode_spec m 0 u
  have h0 := groupOnMode_eq m 0 u hmode
  have h01 : (0 : Fin 2) ≠ 1 := by decide
  rw [groups2, List.foldl_cons, List.foldl_cons, List.foldl_nil]
  generalize hv : u.groupOnMode m 0 = v at h0 hfirst
  have hvmode : v.sts.mode = m := by rw [hfirst]; exact hmode
  have hv1 : v.group[(1 : Fin 2)] = u.group[(1 : Fin 2)] := by rw [h0, set_other _ _ h01.symm]
  have hvcause : v.anyCause 1 = u.anyCause 1 := by
    unfold State.anyCause
    rw [hv1, hfirst]
  rw [groupOnMode_eq m 1 v hvmode, hv1, hvcause]
  obtain rfl | rfl : g = 0 ∨ g = 1 := by
    revert g
    decide
  · rw [set_other _ _ h01, h0, set_same, hgroup, hcause]
  · rw [set_same, hgroup, hcause]

-- ===================================================================== the count of available groups (R121, R141)

/-- A count over a vector after one component is replaced. -/
theorem vcount_set {α : Type} {n : Nat} (p : α → Bool) (v : Vector α n) (k : Fin n) (x : α) :
    vcount p (v.set k x) + (if p v[k] = true then 1 else 0) = vcount p v + (if p x = true then 1 else 0) := by
  have hk : k.val < v.toList.length := by simp
  have hget : v.toList[k.val] = v[k] := by simp
  have hpos : p v[k] = true → 0 < v.toList.countP p := fun h =>
    List.countP_pos_iff.2 ⟨v[k], hget ▸ List.getElem_mem hk, h⟩
  unfold vcount
  rw [← List.countP_eq_length_filter, ← List.countP_eq_length_filter, Vector.toList_set, List.countP_set hk, hget]
  split
  next h =>
    have := hpos h
    omega
  next => omega

theorem availableGroups_set {s t : State} {g : Fin 2} {r : GroupRec} (h : t.group = s.group.set g r) :
    t.availableGroups + (if s.group[g].state.available = true then 1 else 0) =
      s.availableGroups + (if r.state.available = true then 1 else 0) := by
  unfold State.availableGroups
  rw [h]
  exact vcount_set _ _ _ _

/-- A new count with RUN clear is recorded. -/
theorem groupsChanged_stopped {s : State} (hr : s.sts.run = false) :
    s.groupsChanged = s.setSts { s.sts with available := s.availableGroups } := by
  unfold State.groupsChanged
  by_cases h : s.availableGroups = s.sts.available
  · rw [if_pos h, h]
    rfl
  · rw [if_neg h]
    exact if_neg fun hm => absurd (hr.symm.trans hm.1) (by decide)

/-- A new count with RUN set is recorded, and the mode follows it. -/
theorem groupsChanged_running {s : State} (hn : s.availableGroups ≠ s.sts.available) (hr : s.sts.run = true) :
    ∃ r e, s.groupsChanged = { s with
        sts := { s.sts with available := s.availableGroups, mode := modeOfCount s.availableGroups }
        group := r, events := e } ∧
      ∀ g : Fin 2, s.group[g].state = .locked → r[g] = s.group[g] := by
  unfold State.groupsChanged
  rw [if_neg hn]
  by_cases hm : s.sts.mode = modeOfCount s.availableGroups
  · refine ⟨s.group, s.events, ?_, fun _ _ => rfl⟩
    rw [← hm]
    exact if_neg fun h => h.2 rfl
  · generalize hv : s.setSts { s.sts with available := s.availableGroups } = v
    obtain ⟨r, e, hc⟩ := changeMode_spec (modeOfCount s.availableGroups) (causeOfCount s.availableGroups) v
    refine ⟨r, e, ?_, fun g hg => ?_⟩
    · dsimp only
      rw [if_pos (by rw [← hv]; exact ⟨hr, hm⟩), hc, ← hv]
      rfl
    · have hgroup := changeMode_group (modeOfCount s.availableGroups) (causeOfCount s.availableGroups) g v
      have hvg : v.group = s.group := by rw [← hv]; rfl
      rw [hc, hvg, onMode_locked _ _ _ hg] at hgroup
      exact hgroup

-- ===================================================================== the overcurrent (R124, R125)

theorem overcurrentTaken_firing {g : Fin 2} {s : State} (hf : s.group[g].state.fires = true)
    (hrun : s.group[g].ocRun = 2) :
    s.overcurrentTaken g = { s with
      group := s.group.set g (blockedRec .overcurrent { s.group[g] with overcurrent := true })
      events := pushEvent s.events
        (s.event .rcu (g.val + 1) .groupState (pair (g.val + 1) GState.blocked.code)
          (uword (gReasonCode (.cause .overcurrent))) (s.trigger srcGroupBlock).2)
      cap := (s.trigger srcGroupBlock).1.cap } := by
  have hdue : s.overcurrentDue g = true := Bool.and_eq_true_iff.2 ⟨hf, beq_iff_eq.2 hrun⟩
  have hself := State.setGroupRec_self g { s.group[g] with overcurrent := true } s
  unfold State.overcurrentTaken
  rw [if_pos hdue, blockGroup_firing_of (s := s) (t := s.setGroupRec g _) ⟨rfl, rfl, rfl, rfl⟩
    ((congrArg (·.state.fires) hself).trans hf), hself,
    State.setGroupRec_group, Vector.set_set]
  rfl

-- ===================================================================== restarts (R126)

theorem restartAged_eq (g : Fin 2) (s : State) (h : List Time) (hh : s.age 600000 s.group[g].history = h) :
    s.restartAged g = { s with group := s.group.set g { s.group[g] with history := h } } := by
  rw [← hh]
  rfl

/-- A history whose oldest entry is not old enough is left as it is. -/
theorem restartAged_same (g : Fin 2) (s : State) (hh : s.age 600000 s.group[g].history = s.group[g].history) :
    s.restartAged g = s := by
  rw [restartAged_eq g s _ hh]
  exact congrArg (fun v => { s with group := v }) (set_self s.group g)

theorem anyCause_setGroupRec {g : Fin 2} {s : State} {r : GroupRec} (ho : r.overcurrent = s.group[g].overcurrent)
    (ht : r.temp = s.group[g].temp) (hc : r.channel = s.group[g].channel) :
    (s.setGroupRec g r).anyCause g = s.anyCause g := by
  unfold State.anyCause
  rw [State.setGroupRec_self, ho, ht, hc]
  rfl

/-- A delay that has run out with no cause present and the station feeding: the restart, or the lock after two in the
last 600 s. -/
theorem restartExpiry_tested {g : Fin 2} {s : State} (hb : s.group[g].state = .blocked)
    (hd : s.group[g].delay = some 0) (hc : s.anyCause g = false) (hm : s.sts.mode.feeds = true) {young : List Time}
    (hy : s.prune 600000 s.group[g].history = young) :
    s.restartExpiry g =
      if young.length < 2 then
        (s.setGroupRec g { s.group[g] with delay := none, history := young ++ [s.elapsed] }).moveGroup g .starting
          .restart .none
      else (s.setGroupRec g { s.group[g] with delay := none, history := young }).lockGroup g := by
  have hset (r q : GroupRec) : (s.setGroupRec g r).setGroupRec g q = s.setGroupRec g q := by
    simp only [State.setGroupRec, Vector.set_set]
  have hself := State.setGroupRec_self g { s.group[g] with delay := none } s
  have hno := anyCause_setGroupRec (g := g) (s := s) (r := { s.group[g] with delay := none }) rfl rfl rfl
  unfold State.restartExpiry State.restartTest
  rw [if_pos ⟨hb, (expired_iff _).2 hd⟩, if_pos ⟨by rw [hself]; exact hb, by rw [hself], by rw [hno, hc]; rfl, hm⟩,
    ← hy]
  dsimp only
  rw [hself, hset, State.setGroupRec_self, hset]
  rfl

/-- The lock of a group that was available, with RUN set (R126, R141). -/
theorem lockGroup_running {g : Fin 2} {s : State} (hg : s.group[g].state.available = true)
    (ha : s.sts.available = s.availableGroups) (hr : s.sts.run = true) :
    ∃ r e, s.lockGroup g = { s with
        sts := { s.sts with available := s.sts.available - 1, mode := modeOfCount (s.sts.available - 1) }
        group := r, events := e } ∧
      r[g] = { s.group[g] with lockRestarts := true }.take .locked := by
  unfold State.lockGroup
  generalize hu : (s.setGroupRec g { s.group[g] with lockRestarts := true }).moveGroup g .locked .restarts .none = u
  have hgroup : u.group = s.group.set g ({ s.group[g] with lockRestarts := true }.take .locked) := by
    rw [← hu, moveGroup_group, State.setGroupRec_self, State.setGroupRec_group, Vector.set_set]
  have hself : u.group[g] = { s.group[g] with lockRestarts := true }.take .locked := by rw [hgroup, set_same]
  have hsts : u.sts = s.sts := by rw [← hu]; rfl
  have hcount := availableGroups_set hgroup
  rw [if_pos hg, take_state, if_neg (by decide), ← ha] at hcount
  have hn : u.availableGroups = s.sts.available - 1 := by omega
  obtain ⟨r, e, heq, hlocked⟩ := groupsChanged_running (s := u) (by rw [hsts]; omega) (by rw [hsts]; exact hr)
  refine ⟨r, e, ?_, ?_⟩
  · rw [heq, hn, hsts, ← hu]
    rfl
  · rw [hlocked g (by rw [hself, take_state]), hself]

/-- Settles O41: the block as any cause's, the history by its ageing and pruning, and the lock by the count. -/
theorem overcurrentBlocksThenRestarts : Obligations.OvercurrentBlocksThenRestarts := by
  refine ⟨fun g s hf hrun => congrArg Host.Outcome.next (overcurrentTaken_firing hf hrun), fun g s hq => ?_⟩
  intro young
  refine ⟨fun hh => ?empty, fun e rest hh => ⟨fun hage => ?young, fun hage => ?old⟩, fun hd => ?running,
    fun hb hd hc => ?caused, fun hb hd hc hm => ?tested⟩
  case empty => exact next_settled hq (restartAged_same g s (by rw [hh]; rfl))
  case young => exact next_settled hq (restartAged_same g s (by rw [hh]; exact if_neg (Nat.not_le.2 hage)))
  case old => exact next_settled hq (restartAged_eq g s rest (by rw [hh]; exact if_pos hage))
  case running => exact next_settled hq (if_neg fun h => hd ((expired_iff _).1 h.2))
  case caused =>
    have hcause := anyCause_setGroupRec (g := g) (s := s) (r := { s.group[g] with delay := none }) rfl rfl rfl
    exact next_settled hq ((if_pos ⟨hb, (expired_iff _).2 hd⟩).trans (restartTest_stays (.inr (hcause.trans hc))))
  case tested =>
    have hexp := restartExpiry_tested hb hd hc ((feeds_iff _).2 hm) (young := young) rfl
    refine ⟨fun hfew => ?restart, fun hmany hav hr => ?lock⟩
    case restart =>
      refine next_settled hq (hexp.trans ((if_pos hfew).trans ?_))
      rw [moveGroup_spec, State.setGroupRec_self]
      simp only [State.setGroupRec, Vector.set_set]
      rfl
    case lock =>
      rw [if_neg (Nat.not_lt.2 hmany)] at hexp
      have hgrow : EventsGrow s.events (s.restartExpiry g).events := (StationActs.refl s).restartExpiry.grow
      generalize hu : s.setGroupRec g _ = u at hexp
      have hself : u.group[g] = { s.group[g] with delay := none, history := young } := by
        rw [← hu, State.setGroupRec_self]
      have hcount : u.availableGroups = s.availableGroups :=
        Nat.add_right_cancel (availableGroups_set (r := { s.group[g] with delay := none, history := young })
          (by rw [← hu]; rfl))
      obtain ⟨r, e, heq, hrg⟩ := lockGroup_running (g := g) (s := u) (by rw [hself]; exact congrArg GState.available hb)
        (by rw [hcount, ← hav, ← hu]; rfl) (by rw [← hu]; exact hr)
      have hlocked : s.restartExpiry g = { s with
          sts := { s.sts with available := s.sts.available - 1, mode := modeOfCount (s.sts.available - 1) }
          group := r, events := e } := by
        rw [hexp, heq, ← hu]
        rfl
      rw [hlocked] at hgrow
      refine ⟨_, next_settled hq hlocked, ?_⟩
      dsimp only
      rw [hrg, hself]
      exact ⟨rfl, rfl, rfl, rfl, rfl, hgrow, rfl⟩

end Sys2Proof.Proofs
end

section
/-! Firing (R115, R116) and the regulator (R117..R119): what a firing instant does to its group's record, and the end of the
soft start (R118, R123). -/
namespace Sys2Proof.Proofs

open Sys2Proof Sys2Proof.Machine Sys2Proof.Laws

-- ===================================================================== the pulse (R115, R116)

/-- The thyristor that a firing instant gives its pulse (log 28). -/
def thyristorNow (g : Fin 2) (m : Fin 6) (s : State) : Fin 6 :=
  if s.group[g].begun = true then s.group[g].next else m

/-- The crossing of that thyristor's own cycle. -/
def crossNow (g : Fin 2) (m : Fin 6) (s : State) : Option Nat :=
  if s.group[g].begun = true then s.group[g].anchor else s.sync[g].ownCross m

/-- The group's record with the pulse given. -/
def pulsed (g : Fin 2) (m : Fin 6) (s : State) : GroupRec :=
  { s.group[g] with
    next := thyristorNow g m s, begun := true, pulse := some (thyristorNow g m s)
    anchor := s.sync[g].nextCross (thyristorNow g m s) (crossNow g m s) }

/-- The same with the next thyristor advanced. -/
def fired (g : Fin 2) (m : Fin 6) (s : State) : GroupRec := { pulsed g m s with next := thyristorNow g m s + 1 }

theorem nextCross_eq (y : SyncRec) (n : Fin 6) (own : Option Nat) :
    y.nextCross n own = if n.val ≠ 5 then own else if y.lastCross = own then none else y.lastCross := by
  rw [SyncRec.nextCross, ite_not]

-- ===================================================================== the regulator (R117..R119)

/-- The regulator update of group g on the latest record. -/
def updateNow (g : Fin 2) (s : State) : Update :=
  let uf := uref s.uset s.station.droop (s.reading (chIG 0)).value (s.reading (chIG 1)).value
  let e := uf - (s.reading chUB).value
  { uref := uf, e := e, ub := (s.reading chUB).value, frame := s.aqu.latest.number
    step := if (s.ilim : Int) ≤ (s.reading (chIG g)).value then -20
      else softStart (s.group[g].state == .starting) (regStep s.station.ka e) }

/-- A record of group g after that update. -/
def regulated (g : Fin 2) (r : GroupRec) (s : State) : GroupRec :=
  let a := applyStep s.station r.alpha r.phasedBack (s.reading chUB).value (updateNow g s).step
  { r with
    alpha := a.1, phasedBack := a.2, currentLimit := decide ((s.ilim : Int) ≤ (s.reading (chIG g)).value)
    last := some (updateNow g s) }

theorem regulate_eq (g : Fin 2) (s : State) : s.regulate g = regulated g s.group[g] s := by
  unfold State.regulate regulated updateNow
  simp only [decide_eq_true_eq]

section fire

variable {g : Fin 2} {m : Fin 6} {s : State}

/-- An update on a record that does not mark UB STALE, with the end of the soft start. -/
theorem update_counted (hs : (s.reading chUB).health ≠ .stale) :
    s.update g =
      if s.group[g].state = .starting ∧ (updateNow g s).e ≤ 10 then
        (s.setGroupRec g (regulated g s.group[g] s)).moveGroup g .running .running .none
      else s.setGroupRec g (regulated g s.group[g] s) := by
  unfold State.update
  rw [if_neg hs, regulate_eq]
  rfl

theorem fire_refused (h : s.firingPermitted g = false) : s.fire g m = s := if_neg (Bool.eq_false_iff.1 h)

theorem fire_permitted (h : s.firingPermitted g = true) :
    s.fire g m = ((s.setGroupRec g (pulsed g m s)).update g).advanceNext g := if_pos h

/-- A firing instant on a record that marks UB STALE: the pulse alone. -/
theorem fire_stale (hp : s.firingPermitted g = true) (hs : (s.reading chUB).health = .stale) :
    s.fire g m = s.setGroupRec g (fired g m s) := by
  have hup : (s.setGroupRec g (pulsed g m s)).update g = s.setGroupRec g (pulsed g m s) := if_pos hs
  rw [fire_permitted hp, hup, State.advanceNext, State.setGroupRec_self]
  simp only [State.setGroupRec, Vector.set_set]
  rfl

/-- A firing instant on any other record: the pulse and one update, which may end the soft start. -/
theorem fire_counted (hp : s.firingPermitted g = true) (hs : (s.reading chUB).health ≠ .stale) :
    s.fire g m =
      if s.group[g].state = .starting ∧ (updateNow g s).e ≤ 10 then
        (s.setGroupRec g (regulated g (fired g m s) s)).moveGroup g .running .running .none
      else s.setGroupRec g (regulated g (fired g m s) s) := by
  have hself := State.setGroupRec_self g (pulsed g m s) s
  have hnow : updateNow g (s.setGroupRec g (pulsed g m s)) = updateNow g s := by
    unfold updateNow
    rw [hself]
    rfl
  have hreg : regulated g (pulsed g m s) (s.setGroupRec g (pulsed g m s)) = regulated g (pulsed g m s) s := by
    unfold regulated
    rw [hnow]
    rfl
  rw [fire_permitted hp, update_counted (by exact hs), hnow, hself, hreg]
  refine (apply_ite (State.advanceNext g) ..).trans (if_congr .rfl ?_ ?_)
  · simp only [State.advanceNext, moveGroup_spec, State.setGroupRec, set_same, Vector.set_set]
    rfl
  · simp only [State.advanceNext, State.setGroupRec, set_same, Vector.set_set]
    rfl

end fire

/-- Firing is not permitted where one of its conditions fails. -/
theorem firingPermitted_false {g : Fin 2} {s : State} (h : s.group[g].state.fires = false ∨ s.sync[g].locked = false ∨
    (s.sts.mode ≠ .normal ∧ s.sts.mode ≠ .reduced)) : s.firingPermitted g = false := by
  refine Bool.eq_false_iff.2 fun hp => ?_
  obtain ⟨hf, hl, hm⟩ := (firingPermitted_iff s g).1 hp
  obtain h | h | ⟨hn, hr⟩ := h
  · exact absurd ((fires_iff _).2 hf) (Bool.eq_false_iff.1 h)
  · exact absurd hl (Bool.eq_false_iff.1 h)
  · exact hm.elim hn hr

/-- The step of a soft start is at most 5. -/
theorem updateNow_soft {g : Fin 2} {s : State} (h : s.group[g].state = .starting) : (updateNow g s).step ≤ 5 := by
  unfold updateNow softStart
  rw [h]
  dsimp only
  split
  · decide
  · exact min_le_right _ _

/-- Settles O39: the firing instant by its equation, whose branch is the end of the soft start. -/
theorem firingPermittedAndSoftStart : Obligations.FiringPermittedAndSoftStart := by
  refine ⟨fun g m s hq => ⟨fun h => next_settled hq (fire_refused (firingPermitted_false h)), next_settled hq rfl⟩,
    fun g m s hq hst hl hm hs => ?_⟩
  have hfire := fire_counted (m := m) ((firingPermitted_iff s g).2 ⟨.inl hst, hl, hm⟩) hs
  have hother (r : GroupRec) (h : Fin 2) (hh : h ≠ g) : (s.group.set g r)[h] = s.group[h] := set_other _ _ hh
  refine ⟨s.fire g m, updateNow g s, next_settled hq rfl, ?_⟩
  by_cases he : (updateNow g s).e ≤ 10
  · rw [hfire, if_pos ⟨hst, he⟩, moveGroup_spec, State.setGroupRec_self, State.setGroupRec_group, Vector.set_set]
    refine ⟨?_, updateNow_soft hst, rfl, fun _ => ⟨?_, rfl⟩, fun hlt => absurd he (Int.not_le.2 hlt), rfl, hother _⟩
    · dsimp only
      rw [set_same]
      rfl
    · dsimp only
      rw [set_same, take_state]
  · rw [hfire, if_neg fun h => he h.2, State.setGroupRec_self]
    exact ⟨rfl, updateNow_soft hst, rfl, fun h => absurd h he, fun _ => ⟨hst, rfl⟩, rfl, hother _⟩

-- ===================================================================== the angle (R119)

/-- The limited step as it is applied: the overvoltage, its band of 20 V while PHASED_BACK stands, and the range. -/
theorem applyStep_overvoltage {c : StationCfg} {alpha : Nat} {back : Bool} {ub step : Int} (h : (c.uov : Int) ≤ ub) :
    applyStep c alpha back ub step = (1500, true) := if_pos h

theorem applyStep_held {c : StationCfg} {alpha : Nat} {back : Bool} {ub step : Int} (hb : back = true)
    (h : (c.uov : Int) - 20 ≤ ub) (hlt : ub < c.uov) : applyStep c alpha back ub step = (1500, true) :=
  (if_neg (Int.not_le.2 hlt)).trans (if_pos ⟨hb, h⟩)

theorem applyStep_moves {c : StationCfg} {alpha : Nat} {back : Bool} {ub step : Int} (hlt : ub < c.uov)
    (h : back = false ∨ ub < (c.uov : Int) - 20) :
    applyStep c alpha back ub step = ((max (c.alphaMin : Int) (min 1500 ((alpha : Int) - step))).toNat, false) := by
  refine (if_neg (Int.not_le.2 hlt)).trans (if_neg fun ⟨hb, hle⟩ => ?_)
  obtain h | h := h
  · exact absurd hb (Bool.eq_false_iff.1 h)
  · exact Int.not_le.2 h hle

/-- The step of a group in RUNNING, at and below the current limit. -/
theorem updateNow_limited {g : Fin 2} {s : State} (h : (s.ilim : Int) ≤ (s.reading (chIG g)).value) :
    (updateNow g s).step = -20 := if_pos h

theorem updateNow_running {g : Fin 2} {s : State} (hst : s.group[g].state = .running)
    (h : (s.reading (chIG g)).value < s.ilim) :
    (updateNow g s).step = regStep s.station.ka (updateNow g s).e := by
  refine (if_neg (Int.not_le.2 h)).trans ?_
  rw [hst]
  rfl

/-- A record after an update, by its step, the angle applied and the current limit. -/
theorem regulated_eq {g : Fin 2} {r : GroupRec} {s : State} {step : Int} {a : Nat} {back limited : Bool}
    (hstep : (updateNow g s).step = step)
    (ha : applyStep s.station r.alpha r.phasedBack (s.reading chUB).value step = (a, back))
    (hl : decide ((s.ilim : Int) ≤ (s.reading (chIG g)).value) = limited) :
    regulated g r s = { r with
      alpha := a, phasedBack := back, currentLimit := limited, last := some { updateNow g s with step := step } } := by
  unfold regulated
  rw [hl, hstep, ha, ← hstep]

/-- The firing instant of the next thyristor, once the crossing of its cycle has come (R115). -/
theorem firingTime_eq {g : Fin 2} {s : State} {cross period : Nat} (hc : s.group[g].anchor = some cross)
    (hp : s.sync[g].period = some period) :
    s.firingTime g = some (cross + (300 + 600 * s.group[g].next.val + s.group[g].alpha) * period / 3600) := by
  unfold State.firingTime
  rw [hc, hp]
  rfl

/-- Settles O40: the record a firing instant leaves, by what the limits make of the step and the angle. -/
theorem firingUpdatesAngle : Obligations.FiringUpdatesAngle := by
  intro g m s hq hst hl hm n own r ub uf p ilim last moved
  have hr : fired g m s = r := by
    unfold fired pulsed
    rw [nextCross_eq]
    rfl
  have hp := (firingPermitted_iff s g).2 ⟨.inr hst, hl, hm⟩
  have hfire (hs : (s.reading chUB).health ≠ .stale) {q : GroupRec} (hreg : regulated g r s = q) :
      exec (.firingInstant g m) s = .next { s with group := s.group.set g q } := by
    refine next_settled hq ((fire_counted hp hs).trans ((if_neg fun h => ?_).trans ?_))
    · rw [hst] at h
      cases h.1
    · rw [hr, hreg]
      rfl
  have hbelow (h : (s.reading (chIG g)).value < ilim) : decide ((s.ilim : Int) ≤ (s.reading (chIG g)).value) = false :=
    decide_eq_false (Int.not_le.2 h)
  have hstep (h : (s.reading (chIG g)).value < ilim) : (updateNow g s).step = p := updateNow_running hst h
  refine ⟨fun cross period => firingTime_eq, fun hs => ?stale, fun hs hov hi => ?overvoltage,
    fun hs hback hlo hhi hi => ?held, fun hs hlt hfree => ⟨fun hi => ?moved, fun hi => ?limited⟩⟩
  case stale => exact next_settled hq ((fire_stale hp hs).trans (by rw [hr]; rfl))
  case overvoltage => exact hfire hs (regulated_eq (hstep hi) (applyStep_overvoltage hov) (hbelow hi))
  case held =>
    exact hfire hs (regulated_eq (back := r.phasedBack) (hstep hi)
      ((applyStep_held hback hlo hhi).trans (by rw [← hback])) (hbelow hi))
  case moved => exact hfire hs (regulated_eq (hstep hi) (applyStep_moves hlt hfree) (hbelow hi))
  case limited =>
    exact hfire hs (regulated_eq (updateNow_limited hi) (applyStep_moves hlt hfree) (decide_eq_true hi))

end Sys2Proof.Proofs
end

section
/-! The requests on the rectifier groups and on the voltage (R129..R132). -/
namespace Sys2Proof.Proofs

open Sys2Proof Sys2Proof.Machine Sys2Proof.Laws

-- ===================================================================== Set Voltage (R132)

/-- The number that the two bytes of a value spell. -/
theorem field_beBytes_two {v : Nat} (h : v < 65536) : field (beBytes 2 v) 0 2 = v := by
  have hbytes : beBytes 2 v = [BitVec.ofNat 8 (v / 256), BitVec.ofNat 8 v] := by simp [beBytes]
  rw [hbytes]
  exact (beNat_two v).trans (Nat.mod_eq_of_lt h)

theorem voltageApplied_spec (v : Nat) :
    600 ≤ voltageApplied v ∧ voltageApplied v ≤ 900 ∧ (600 ≤ v → v ≤ 900 → voltageApplied v = v) ∧
    (v < 600 → voltageApplied v = 600) ∧ (900 < v → voltageApplied v = 900) := by
  unfold voltageApplied
  omega

theorem answerSetVoltage_eq {v : Nat} {s : State} (h : v < 65536) :
    s.answerSetVoltage (beBytes 2 v) =
      if s.sts.mode = .start then s.refuse (.mode s.sts.mode)
      else ({ s with uset := voltageApplied v } : State).ok (.voltage (voltageApplied v)) := by
  rw [State.answerSetVoltage, field_beBytes_two h]
  rfl

-- ===================================================================== Enable, Disable and Reset Group (R129..R131)

/-- A group argument names the group it numbers (R200). -/
theorem groupArg_spec (g : Fin 2) : groupArg [BitVec.ofNat 8 (g.val + 1)] = some g := by
  revert g
  decide

theorem withArg_group (g : Fin 2) (s : State) (f : Fin 2 → Answer) :
    withArg 1 [BitVec.ofNat 8 (g.val + 1)] (groupArg [BitVec.ofNat 8 (g.val + 1)]) s f = f g := by
  rw [groupArg_spec]
  rfl

theorem setGroupRec_same (g : Fin 2) (s : State) : s.setGroupRec g s.group[g] = s :=
  congrArg (fun v => { s with group := v }) (set_self s.group g)

/-- A group's record as it leaves firing: R121 for OFF, LOCKED and DISABLED alike. -/
def rested (r : GroupRec) (st : GState) : GroupRec :=
  { r with
    state := st, alpha := 1500, currentLimit := false, phasedBack := false, ocRun := 0, next := 0, begun := false
    anchor := none, pulse := none, delay := none }

theorem take_rested {st : GState} (h : st = .off ∨ st = .disabled) (r : GroupRec) : r.take st = rested r st := by
  obtain rfl | rfl := h <;> rfl

/-- s with group g moved on request to a state in which it rests, its record r before, and n groups available. -/
def groupRequested (g : Fin 2) (r : GroupRec) (st : GState) (n : Nat) (s : State) : State :=
  { s with
    group := s.group.set g (rested r st)
    sts := { s.sts with available := n }
    events := pushEvent s.events
      (s.event .rcu (g.val + 1) .groupState (pair (g.val + 1) st.code) (uword (gReasonCode .request)) .none) }

section requests

variable {g : Fin 2} {s : State} (hr : s.sts.run = false) (hn : s.sts.available = s.availableGroups)
include hr hn

/-- A move on request with RUN clear, and the count that follows it. -/
theorem moveGroup_requested {r : GroupRec} {st : GState} {n : Nat} (hst : st = .off ∨ st = .disabled)
    (hcount : n + (if s.group[g].state.available = true then 1 else 0) =
      s.sts.available + (if st.available = true then 1 else 0)) :
    ((s.setGroupRec g r).moveGroup g st .request .none).groupsChanged = groupRequested g r st n s := by
  generalize hu : (s.setGroupRec g r).moveGroup g st .request .none = u
  have hgroup : u.group = s.group.set g (rested r st) := by
    rw [← hu, moveGroup_group, State.setGroupRec_self, State.setGroupRec_group, Vector.set_set, take_rested hst]
  have hcount' := availableGroups_set hgroup
  rw [← hn] at hcount'
  have havail : u.availableGroups = n := Nat.add_right_cancel (hcount'.trans hcount.symm)
  rw [groupsChanged_stopped (by rw [← hu]; exact hr), havail]
  unfold groupRequested
  rw [← hgroup, ← hu]
  rfl

/-- A group enabled, or reset, while the station does not feed: OFF, and one more is available. -/
theorem enableTaken_stopped {r : GroupRec} (hm : s.sts.mode.feeds = false) (hg : s.group[g].state.available = false) :
    (s.setGroupRec g r).enableTaken g = groupRequested g r .off (s.sts.available + 1) s := by
  have hmove := moveGroup_requested (g := g) (r := r) hr hn (.inl rfl) (n := s.sts.available + 1)
    (by rw [if_neg (Bool.eq_false_iff.1 hg)]; rfl)
  exact (congrArg (State.startTest g) hmove).trans (startTest_stays (.inr (.inl hm)))

/-- A group disabled: it is no longer available, if it was. -/
theorem disableTaken_stopped (hd : s.group[g].state ≠ .disabled) :
    s.disableTaken g = groupRequested g s.group[g] .disabled
      (if s.group[g].state = .locked then s.sts.available else s.sts.available - 1) s := by
  have hcount := availableGroups_set (s := s) (t := s.setGroupRec g (rested s.group[g] .disabled)) (g := g) rfl
  have havail : s.group[g].state.available = true ↔ s.group[g].state ≠ .locked := by
    cases hst : s.group[g].state <;> simp_all [GState.available]
  have hmove := moveGroup_requested (g := g) (r := s.group[g]) hr hn (.inr rfl)
    (n := if s.group[g].state = .locked then s.sts.available else s.sts.available - 1) (by
      rw [← hn] at hcount
      by_cases hl : s.group[g].state = .locked
      · rw [if_pos hl, if_neg fun h => havail.1 h hl]
        rfl
      · rw [if_pos (havail.2 hl)] at hcount
        rw [if_neg hl, if_pos (havail.2 hl)]
        have hoff : (if (rested s.group[g] .disabled).state.available = true then 1 else 0) = 0 := rfl
        have hoff' : (if GState.disabled.available = true then 1 else 0) = 0 := rfl
        omega)
  rw [setGroupRec_same] at hmove
  exact (if_neg hd).trans hmove

end requests

/-- Settles O42: each request by its owner's answer, the moves with RUN clear by the count they leave. -/
theorem groupAndVoltageRequests : Obligations.GroupAndVoltageRequests := by
  refine ⟨fun v tag s hr hv => ⟨fun hm => ?start, fun hm => ?voltage⟩,
    fun g tag s hr hm hrun hnormal hreduced hn => ?groups⟩
  case start =>
    refine answers_of_ready hr rfl (payloadFits_of_length 2 rfl) ((answerSetVoltage_eq hv).trans ((if_pos hm).trans ?_))
    rw [← hm]
    rfl
  case voltage =>
    exact ⟨voltageApplied v, answers_of_ready hr rfl (payloadFits_of_length 2 rfl)
      ((answerSetVoltage_eq hv).trans (if_neg hm)), voltageApplied_spec v⟩
  case groups =>
    intro pl r q left
    have hfeeds : s.heard.sts.mode.feeds = false := Bool.eq_false_iff.2 fun h => by
      obtain h | h := (feeds_iff _).1 h
      · exact hnormal h
      · exact hreduced h
    have henable := withArg_group g s.heard fun g =>
      if s.heard.sts.mode ≠ .start ∧ s.heard.group[g].state = .disabled then (s.heard.enableTaken g).ok .empty
      else s.heard.refuse (.groupState s.heard.group[g].state)
    have hdisable := withArg_group g s.heard fun g =>
      if s.heard.sts.mode = .start then s.heard.refuse (.groupState s.heard.group[g].state)
      else (s.heard.disableTaken g).ok .empty
    have hreset := withArg_group g s.heard fun g =>
      if s.heard.sts.mode ≠ .start ∧ s.heard.group[g].state = .locked then (s.heard.resetTaken g).ok .empty
      else s.heard.refuse (.groupState s.heard.group[g].state)
    refine ⟨fun hd => ⟨?enable, ?again⟩, fun hd => ⟨?enabled, ?disable⟩, fun hl => ?reset, fun hl => ?unlocked⟩
    case enable =>
      have htaken := enableTaken_stopped (g := g) (s := s.heard) (r := s.heard.group[g]) hrun hn hfeeds
        (congrArg GState.available hd)
      rw [setGroupRec_same] at htaken
      refine answers_of_ready hr rfl (payloadFits_of_length 1 rfl) (henable.trans ((if_pos ⟨hm, hd⟩).trans ?_))
      rw [htaken]
      rfl
    case again =>
      refine answers_of_ready hr rfl (payloadFits_of_length 1 rfl) (hdisable.trans ((if_neg hm).trans ?_))
      have htaken : s.heard.disableTaken g = s.heard := if_pos hd
      rw [htaken]
      rfl
    case enabled =>
      exact answers_of_ready hr rfl (payloadFits_of_length 1 rfl) (henable.trans (if_neg fun h => hd h.2))
    case disable =>
      refine answers_of_ready hr rfl (payloadFits_of_length 1 rfl) (hdisable.trans ((if_neg hm).trans ?_))
      rw [disableTaken_stopped (g := g) (s := s.heard) hrun hn hd]
      rfl
    case reset =>
      refine answers_of_ready hr rfl (payloadFits_of_length 1 rfl) (hreset.trans ((if_pos ⟨hm, hl⟩).trans ?_))
      rw [State.resetTaken, enableTaken_stopped (g := g) (s := s.heard) hrun hn hfeeds (congrArg GState.available hl)]
      rfl
    case unlocked =>
      exact answers_of_ready hr rfl (payloadFits_of_length 1 rfl) (hreset.trans (if_neg fun h => hl h.2))

end Sys2Proof.Proofs
end

section
/-! The requests on the station (R140..R142, R146): Run and Standby Station by the change of mode, Resume Station by what the
exit from SAFE does to each feeder and section (R51, R83). -/
namespace Sys2Proof.Proofs

open Sys2Proof Sys2Proof.Machine Sys2Proof.Laws

-- ===================================================================== a change of mode by request (R122, R127, R141)

/-- A change of mode: STATION_MODE first, then what the groups log. -/
theorem changeMode_grow (m : Mode) (why : ModeCause) (s : State) :
    EventsGrow
      (pushEvent s.events (s.event .sts 0 .stationMode (uword m.code) (uword (modeCauseCode why)) .none))
      (s.changeMode m why).events :=
  ((StationActs.refl ((s.setSts { s.sts with mode := m }).logSts .stationMode (uword m.code)
    (uword (modeCauseCode why)))).groupsOnMode).grow

/-- RUN is set or cleared, and the mode changes with it: the whole state, each group, and the events. -/
theorem runMode_spec (b : Bool) (m : Mode) (why : ModeCause) (s : State) :
    ∃ r e, (s.setSts { s.sts with run := b }).changeMode m why = { s with
        sts := { s.sts with run := b, mode := m }, group := r, events := e } ∧
      (∀ g : Fin 2, r[g] = onMode m (s.anyCause g) s.group[g]) ∧
      EventsGrow
        (pushEvent s.events (s.event .sts 0 .stationMode (uword m.code) (uword (modeCauseCode why)) .none)) e := by
  obtain ⟨r, e, h⟩ := changeMode_spec m why (s.setSts { s.sts with run := b })
  have hgroup (g : Fin 2) := changeMode_group m why g (s.setSts { s.sts with run := b })
  have hgrow := changeMode_grow m why (s.setSts { s.sts with run := b })
  rw [h] at hgroup hgrow
  exact ⟨r, e, h, hgroup, hgrow⟩

-- ===================================================================== Run Station (R140, R141)

/-- Two vectors that satisfy a test in the same places have the same count. -/
theorem vcount_congr {α : Type} {n : Nat} {p : α → Bool} {v w : Vector α n} (h : ∀ k : Fin n, p v[k] = p w[k]) :
    vcount p v = vcount p w := by
  have hmap : v.toList.map p = w.toList.map p :=
    List.ext_getElem (by simp) fun i hi _ => by
      have hin : i < n := by simpa using hi
      simpa using h ⟨i, hin⟩
  have hcount (u : Vector α n) : vcount p u = (u.toList.map p).countP id := by
    rw [List.countP_map, vcount, List.countP_eq_length_filter]
    rfl
  rw [hcount, hcount, hmap]

/-- A mode that feeds leaves the availability of every group. -/
theorem onMode_available {m : Mode} (h : m.feeds = true) (cause : Bool) (r : GroupRec) :
    (onMode m cause r).state.available = r.state.available := by
  rw [onMode_feeds h]
  split
  next hr => rw [take_state, hr.1]; rfl
  next => rfl

/-- A mode that feeds starts the groups in OFF that have no cause, and no other. -/
theorem onMode_starts {m : Mode} (h : m.feeds = true) (cause : Bool) (r : GroupRec) :
    (r.state = .off → cause = false → (onMode m cause r).state = .starting ∧ (onMode m cause r).alpha = 1500) ∧
    (r.state ≠ .off ∨ cause = true → onMode m cause r = r) := by
  rw [onMode_feeds h]
  refine ⟨fun ho hc => by rw [if_pos ⟨ho, hc⟩]; exact ⟨rfl, rfl⟩, fun h => if_neg fun h' => ?_⟩
  exact h.elim (fun h => h h'.1) fun h => absurd (h.symm.trans h'.2) (by decide)

/-- STANDBY stops the groups that fire or wait to restart, and no other. -/
theorem onMode_standby (cause : Bool) (r : GroupRec) :
    (r.state.fires = true ∨ r.state = .blocked →
      (onMode .standby cause r).state = .off ∧ (onMode .standby cause r).pulse = none ∧
      (onMode .standby cause r).delay = none) ∧
    (r.state.fires = false → r.state ≠ .blocked → onMode .standby cause r = r) := by
  rw [onMode_stops (.inl rfl)]
  exact ⟨fun h => by rw [if_pos h]; exact ⟨rfl, rfl, rfl⟩,
    fun hf hb => if_neg fun h => h.elim (Bool.eq_false_iff.1 hf) hb⟩

theorem modeOfCount_pos {n : Nat} (h : n ≠ 0) : modeOfCount n = if n = 1 then .reduced else .normal := by
  match n with
  | 0 => exact absurd rfl h
  | 1 => rfl
  | n + 2 => exact (if_neg (by omega)).symm

theorem mayRun_iff (s : State) :
    s.mayRun = true ↔ s.sts.mode = .standby ∧ s.sts.complete = true ∧ s.sts.run = false ∧ s.availableGroups ≠ 0 ∧
      s.sst.lost = false := by
  simp only [State.mayRun, Bool.and_eq_true, beq_iff_eq, bne_iff_ne, Bool.not_eq_true', and_assoc]

theorem runTaken_spec {s : State} {m : Mode} (hm : modeOfCount s.availableGroups = m) (hf : m.feeds = true) :
    ∃ r e, s.runTaken = { s with sts := { s.sts with run := true, mode := m }, group := r, events := e } ∧
      (∀ g : Fin 2, r[g] = onMode m (s.anyCause g) s.group[g]) ∧
      EventsGrow
        (pushEvent s.events (s.event .sts 0 .stationMode (uword m.code) (uword (modeCauseCode .runRequest)) .none)) e ∧
      s.runTaken.availableGroups = s.availableGroups := by
  obtain ⟨r, e, h, hgroup, hgrow⟩ := runMode_spec true m .runRequest s
  rw [← hm] at h
  have htaken : s.runTaken = { s with sts := { s.sts with run := true, mode := m }, group := r, events := e } := by
    rw [← hm]
    exact h
  refine ⟨r, e, htaken, hgroup, hgrow, ?_⟩
  rw [htaken]
  exact vcount_congr fun g => by rw [hgroup g, onMode_available hf]

-- ===================================================================== the exit from SAFE (R51, R83, R146)

/-- What the exit does to a feeder that waits for it; any other is left. -/
theorem safeExit_blocked {k : Fin 6} {s : State} (hs : s.feeder[k].state = .blocked)
    (hc : s.feeder[k].blockCause = .station) : s.safeExit k = s.enterOpen k := if_pos ⟨hs, hc⟩

theorem safeExit_opening {k : Fin 6} {s : State} (hs : s.feeder[k].state = .opening)
    (hd : s.feeder[k].dest = some .blocked) (hc : s.feeder[k].blockCause = .station) :
    s.safeExit k = s.setFeeder k { s.feeder[k] with dest := some .open, blockCause := .none } :=
  (if_neg fun h => by rw [hs] at h; cases h.1).trans (if_pos ⟨hs, hd, hc⟩)

theorem safeExit_other {k : Fin 6} {s : State}
    (h : s.feeder[k].blockCause ≠ .station ∨ (s.feeder[k].state ≠ .blocked ∧
      (s.feeder[k].state ≠ .opening ∨ s.feeder[k].dest ≠ some .blocked))) : s.safeExit k = s := by
  refine (if_neg fun hb => ?_).trans (if_neg fun ho => ?_)
  · exact h.elim (fun h => h hb.2) fun h => h.1 hb.1
  · exact h.elim (fun h => h ho.2.2) fun h => h.2.elim (fun h => h ho.1) fun h => h ho.2.1

/-- The three ways a feeder takes the exit. -/
theorem safeExit_cases (k : Fin 6) (s : State) :
    (s.feeder[k].state = .blocked ∧ s.safeExit k = s.enterOpen k) ∨
    (s.feeder[k].state = .opening ∧
      s.safeExit k = s.setFeeder k { s.feeder[k] with dest := some .open, blockCause := .none }) ∨
    s.safeExit k = s := by
  by_cases hc : s.feeder[k].blockCause = .station
  · by_cases hb : s.feeder[k].state = .blocked
    · exact .inl ⟨hb, safeExit_blocked hb hc⟩
    · by_cases ho : s.feeder[k].state = .opening ∧ s.feeder[k].dest = some .blocked
      · exact .inr (.inl ⟨ho.1, safeExit_opening ho.1 ho.2 hc⟩)
      · exact .inr (.inr (safeExit_other (.inr ⟨hb, not_and_or.1 ho⟩)))
  · exact .inr (.inr (safeExit_other (.inl hc)))

/-- No feeder enters or leaves LOCKED_OUT at the exit, and nothing is captured. -/
theorem safeExit_keeps (k : Fin 6) (s : State) :
    ((s.safeExit k).feeder[k].state = .lockedOut ↔ s.feeder[k].state = .lockedOut) ∧ (s.safeExit k).cap = s.cap := by
  obtain ⟨hs, h⟩ | ⟨hs, h⟩ | h := safeExit_cases k s
  · rw [h, enterOpen_spec, hs]
    dsimp only
    rw [set_same]
    exact ⟨iff_of_false nofun nofun, rfl⟩
  · rw [h, State.setFeeder_self]
    exact ⟨.rfl, rfl⟩
  · rw [h]
    exact ⟨.rfl, rfl⟩

theorem itOutExit_feeder (k : Fin 6) (s : State) : (s.itOutExit k).feeder = s.feeder ∧ (s.itOutExit k).cap = s.cap := by
  unfold State.itOutExit
  split <;> exact ⟨rfl, rfl⟩

/-- The exit as feeder k and its section, whose records were f and c, have taken it in t. -/
structure SafeExited (k : Fin 6) (f : Feeder) (c : Section) (t : State) : Prop where
  opened : f.state = .blocked → f.blockCause = .station → t.feeder[k].state = .open
  redirected : f.state = .opening → f.dest = some .blocked → f.blockCause = .station →
    t.feeder[k] = { f with dest := some .open, blockCause := .none }
  left : f.blockCause ≠ .station ∨ (f.state ≠ .blocked ∧ (f.state ≠ .opening ∨ f.dest ≠ some .blocked)) →
    t.feeder[k] = f
  locked : f.state = .lockedOut → t.sec[k] = c
  cleared : f.state ≠ .lockedOut → t.sec[k].itOut = false

/-- The exit of every feeder, then of every section. -/
def safeExits (s : State) : State :=
  feeders6.foldl (fun s k => s.itOutExit k) (feeders6.foldl (fun s k => s.safeExit k) s)

theorem safeExits_cap (s : State) : (safeExits s).cap = s.cap := by
  obtain ⟨hfirst, -⟩ := foldl_feeders (R := fun u => u.cap = s.cap) (f := fun s k => s.safeExit k)
    (fun k j u hj => (FeederRun.refl.safeExit).sameFeeder hj) (fun k u h => (safeExit_keeps k u).2.trans h) feeders6
    feeders6_nodup s rfl
  exact (foldl_feeders (R := fun u => u.cap = s.cap) (f := fun s k => s.itOutExit k)
    (fun k j u hj => (FeederRun.refl.itOutExit).sameFeeder hj) (fun k u h => (itOutExit_feeder k u).2.trans h) feeders6
    feeders6_nodup _ hfirst).1

theorem safeExits_exited (k : Fin 6) (s : State) : SafeExited k s.feeder[k] s.sec[k] (safeExits s) := by
  obtain ⟨u, -, ⟨huf, -, hus⟩, hlater⟩ := foldl_feeders6 (R := fun _ => True) (f := fun s k => s.safeExit k)
    (fun k j u hj => (FeederRun.refl.safeExit).sameFeeder hj) (fun _ _ h => h) s trivial k
  obtain ⟨v, -, hv, hlast⟩ := foldl_feeders6 (R := fun _ => True) (f := fun s k => s.itOutExit k)
    (fun k j u hj => (FeederRun.refl.itOutExit).sameFeeder hj) (fun _ _ h => h)
    (feeders6.foldl (fun s k => s.safeExit k) s) trivial k
  obtain ⟨hvf, -, hvs⟩ := hlater.trans hv
  obtain ⟨htf, -, hts⟩ := hlast
  have hfeeder : (safeExits s).feeder[k] = (u.safeExit k).feeder[k] := by
    rw [← hvf]
    exact htf.trans (congrArg (fun f : Vector Feeder 6 => f[k]) (itOutExit_feeder k v).1)
  have hlock : v.feeder[k].state = .lockedOut ↔ u.feeder[k].state = .lockedOut := by
    rw [hvf, (safeExit_keeps k u).1]
  rw [← huf, ← hus]
  refine ⟨fun hs hc => ?opened, fun hs hd hc => ?redirected, fun h => ?left, fun hl => ?locked, fun hl => ?cleared⟩
  case opened =>
    rw [hfeeder, safeExit_blocked hs hc, enterOpen_spec]
    exact congrArg Feeder.state (set_same ..)
  case redirected => rw [hfeeder, safeExit_opening hs hd hc, State.setFeeder_self]
  case left => rw [hfeeder, safeExit_other h]
  case locked =>
    have hstay : v.itOutExit k = v := if_pos (hlock.2 hl)
    have hexit : u.safeExit k = u := safeExit_other (.inr ⟨by rw [hl]; decide, .inl (by rw [hl]; decide)⟩)
    exact hts.trans (by rw [hstay, hvs, hexit])
  case cleared =>
    have hclear : v.itOutExit k = v.clearItOut k := if_neg fun h => hl (hlock.1 h)
    rw [hclear] at hts
    exact (congrArg Section.itOut hts).trans (congrArg Section.itOut (set_same ..))

theorem mayResume_iff (s : State) :
    s.mayResume = true ↔ s.sts.mode = .safe ∧ s.safeCauses.any = false ∧ s.sts.complete = true := by
  simp only [State.mayResume, Bool.and_eq_true, beq_iff_eq, Bool.not_eq_true', and_assoc]

theorem mayStandby_iff (s : State) :
    s.mayStandby = true ↔ s.sts.mode = .standby ∨ s.sts.mode = .normal ∨ s.sts.mode = .reduced := by
  simp only [State.mayStandby, Bool.or_eq_true, beq_iff_eq, or_assoc]

/-- Settles O49: each request by its owner's answer; Run and Standby Station by the change of mode, Resume Station by
the exit each feeder takes. -/
theorem runStandbyResumeStation : Obligations.RunStandbyResumeStation := by
  refine ⟨fun tag s hr => ?run, fun tag s hr => ?standby, fun tag s hr => ?resume⟩
  case run =>
    intro c n mode taken
    have hf : payloadFits [] = true := payloadFits_of_length 0 rfl
    have hmay : s.heard.mayRun = true ↔ taken := mayRun_iff s.heard
    refine ⟨fun hm => ?feeding, fun hn hd ht => ?refused, fun ht => ?taken⟩
    case feeding => exact answers_of_ready hr rfl hf (if_pos ((feeds_iff _).2 hm))
    case refused =>
      exact answers_of_ready hr rfl hf ((if_neg fun h => ((feeds_iff _).1 h).elim hn hd).trans (if_neg (mt hmay.1 ht)))
    case taken =>
      have hmode : s.sts.mode = .standby := ht.1
      have hcount : n ≠ 0 := ht.2.2.2.1
      have hlost : s.sst.lost = false := ht.2.2.2.2
      have hfeeds : mode.feeds = true := by
        change (if n = 1 then Mode.reduced else .normal).feeds = true
        split <;> rfl
      obtain ⟨r, e, htaken, hgroup, hgrow, havail⟩ :=
        runTaken_spec (s := s.heard) (m := mode) (modeOfCount_pos hcount) hfeeds
      have hreply : s.heard.runTaken.runReply = .runStation mode n false := by
        unfold State.runReply
        rw [havail, htaken, ← hlost]
        rfl
      have hfed : ¬ s.heard.sts.mode.feeds = true := by
        have hm : s.heard.sts.mode = .standby := hmode
        rw [hm]
        decide
      refine ⟨s.heard.runTaken, answers_of_ready hr rfl hf ((if_neg hfed).trans ((if_pos (hmay.2 ht)).trans ?_)), ?_⟩
      · rw [hreply]
        rfl
      · rw [htaken]
        exact ⟨rfl, fun g => by dsimp only; rw [hgroup g]; exact onMode_starts hfeeds _ _, hgrow, rfl⟩
  case standby =>
    intro c
    have hf : payloadFits [] = true := payloadFits_of_length 0 rfl
    refine ⟨fun hm => ?refused, fun hm => ?standing, fun hm => ?feeding⟩
    case refused =>
      refine answers_of_ready hr rfl hf (if_neg fun h => ?_)
      have hmay := (mayStandby_iff _).1 h
      have hmode : s.heard.sts.mode = .start ∨ s.heard.sts.mode = .safe := hm
      obtain h | h := hmode <;> simp [h] at hmay
    case standing =>
      have hmode : s.heard.sts.mode = .standby := hm
      refine answers_of_ready hr rfl hf ((if_pos ((mayStandby_iff _).2 (.inl hmode))).trans ?_)
      unfold State.standbyTaken
      rw [hmode]
      rfl
    case feeding =>
      have hmode : s.heard.sts.mode.feeds = true := (feeds_iff _).2 hm
      obtain ⟨r, e, htaken, hgroup, hgrow⟩ := runMode_spec false .standby .standbyRequest s.heard
      have hmay : s.heard.mayStandby = true := (mayStandby_iff _).2 (.inr hm)
      refine ⟨_, answers_of_ready (t := { s.heard with
        sts := { s.heard.sts with run := false, mode := .standby }, group := r, events := e }) hr rfl hf
        ((if_pos hmay).trans ?_), rfl, fun g => by dsimp only; rw [hgroup g]; exact onMode_standby _ _, hgrow, rfl⟩
      unfold State.standbyTaken
      rw [← htaken, if_pos hmode]
      rfl
  case resume =>
    intro c
    have hf : payloadFits [] = true := payloadFits_of_length 0 rfl
    have hmay : s.heard.mayResume = true ↔ s.sts.mode = .safe ∧ s.safeCauses.any = false ∧ s.sts.complete = true :=
      mayResume_iff s.heard
    refine ⟨fun hm => ?outside, fun hm hc => ?caused, fun hm hc hd => ?resumed⟩
    case outside =>
      refine answers_of_ready hr rfl hf ((if_neg fun h => hm (hmay.1 h).1).trans ?_)
      rw [if_neg (by exact hm)]
      rfl
    case caused =>
      refine answers_of_ready hr rfl hf ((if_neg fun h => ?_).trans ?_)
      · obtain ⟨-, hany, hcomplete⟩ := hmay.1 h
        exact hc.elim (fun h => absurd (h.symm.trans hany) (by decide))
          fun h => absurd (h.symm.trans hcomplete) (by decide)
      · rw [if_pos (by exact hm)]
        rfl
    case resumed =>
      obtain ⟨r, e, hbase, -, -⟩ := runMode_spec false .standby .resume s.heard
      have hresume : s.heard.resume = safeExits { s.heard with
          sts := { s.heard.sts with run := false, mode := .standby }, group := r, events := e } := by
        rw [← hbase]
        rfl
      refine ⟨s.heard.resume, answers_of_ready hr rfl hf (if_pos (hmay.2 ⟨hm, hc, hd⟩)), ?_⟩
      rw [hresume]
      generalize hb : ({ s.heard with
        sts := { s.heard.sts with run := false, mode := .standby }, group := r, events := e } : State) = b
      have hacts : FeederActs b (safeExits b) := (FeederActs.refl b).safeExits.itOutExits
      have hfeeder : b.feeder = s.feeder := by rw [← hb]; rfl
      have hsec : b.sec = s.sec := by rw [← hb]; rfl
      refine ⟨by rw [hacts.sts, ← hb], fun k => ?_, ?_⟩
      · obtain ⟨hopened, hredirected, hleft, hlocked, hcleared⟩ := safeExits_exited k b
        rw [hfeeder] at hopened hredirected hleft hlocked hcleared
        rw [hsec] at hlocked
        refine ⟨hopened, fun hs hno => hleft (.inl hno), hredirected, fun hs h => ?_, fun hl => ⟨?_, hlocked hl⟩, hcleared⟩
        · exact hleft (h.elim (fun hd => .inr ⟨by rw [hs]; decide, .inr hd⟩) .inl)
        · exact hleft (.inr ⟨by rw [hl]; decide, .inl (by rw [hl]; decide)⟩)
      · have hcap := safeExits_cap b
        obtain ⟨_, _, _, _, _, h⟩ := hacts.frame
        rw [h] at hcap ⊢
        dsimp only at hcap
        rw [hcap, ← hb]

end Sys2Proof.Proofs
end

section
/-! The settings load, Store Settings and its end (R134, R183, R207, R208, R210). -/
namespace Sys2Proof.Proofs

open Sys2Proof Sys2Proof.Machine Sys2Proof.Laws

-- ===================================================================== the load (R134, R183, R210)

theorem loadable_some {r : Sst} {c : Settings} (hcrc : r.imageCrc = some (crc32 r.image))
    (hc : parseImage r.image = some c) : r.loadable = some c := (if_pos hcrc).trans hc

theorem loadable_none {r : Sst} (h : r.imageCrc ≠ some (crc32 r.image) ∨ parseImage r.image = none) :
    r.loadable = none := by
  unfold Sst.loadable
  split
  next hcrc => exact h.resolve_left (not_not.2 hcrc)
  next => rfl

section load

variable {s : State} (ha : s.sst.activity = .loading) (haddr : s.sts.address ≠ none)
include ha haddr

/-- A load of a good image gives every live record. -/
theorem loadDone_good {c : Settings} (h : s.sst.loadable = some c) :
    s.loadDone = { s with
      sst := { s.sst with activity := .idle, live := c, lost := false, confirm := false }
      uset := c.station.uset, cap := { s.cap with active := c.capture } } := by
  unfold State.loadDone
  rw [if_pos ⟨ha, Option.isSome_iff_ne_none.2 haddr⟩, h]
  rfl

/-- A load of a bad one gives the factory defaults and the settings-lost mark. -/
theorem loadDone_bad (h : s.sst.loadable = none) :
    s.loadDone = { s with
      sst := { s.sst with activity := .idle, live := .default, lost := true, confirm := false }
      uset := 780, cap := { s.cap with active := .default }
      events := pushEvent s.events (s.event .sst 0 .settingsLost 0 0 .none) } := by
  unfold State.loadDone
  rw [if_pos ⟨ha, Option.isSome_iff_ne_none.2 haddr⟩, h]
  rfl

end load

-- ===================================================================== the image (R207, R208)

theorem beBytes_length (k n : Nat) : (beBytes k n).length = k := by
  induction k with
  | zero => rfl
  | succ k ih => rw [beBytes, List.length_cons, ih]

/-- The bytes of a record have the length of its kind. -/
theorem encode_length (c : Settings) (id : RecId) : (c.encode id).length = id.length := by
  cases id with
  | station => simp [Settings.encode, encodeStation, beBytes_length, RecId.length]
  | general k => simp [Settings.encode, encodeGeneral, beBytes_length, RecId.length]
  | groupA k => exact encodeGroup_length _
  | groupB k => exact encodeGroup_length _
  | sectionRec k => simp [Settings.encode, encodeSection, beBytes_length, RecId.length]
  | partner j => simp [Settings.encode, encodePartner, beBytes_length, RecId.length]
  | terminal i => simp [Settings.encode, encodeTerminal, beBytes_length, RecId.length]
  | capture => simp [Settings.encode, encodeCapture, beBytes_length, RecId.length]

theorem image_length (c : Settings) : c.image.length = 445 := by
  have hlen : RecId.all.map (fun id => (c.encode id).length) = RecId.all.map RecId.length :=
    List.map_congr_left fun id _ => encode_length c id
  rw [Settings.image, List.length_flatMap, hlen]
  rfl

/-- The end of a store: the image and its CRC, and a confirmed settings-lost mark cleared. -/
theorem storeDone_storing {s : State} {c : Settings} (ha : s.sst.activity = .storing) (hc : s.sst.copy = some c) :
    s.storeDone = { s with
      sst := { s.sst with
        activity := .idle, copy := none, image := c.image, imageCrc := some (crc32 c.image), confirm := false
        lost := s.sst.lost && !s.sst.confirm }
      events := pushEvent s.events
        (s.event .sst 0 .settingsStored ((crc32 c.image).extractLsb' 16 16) ((crc32 c.image).extractLsb' 0 16)
          .none) } := by
  unfold State.storeDone
  rw [ha, hc]
  rfl

end Sys2Proof.Proofs
end

section
/-! Load Defaults (R43, R47, R206, R209): every record is replaced by its factory default in turn and handed to its owner. -/
namespace Sys2Proof.Proofs

open Sys2Proof Sys2Proof.Machine Sys2Proof.Laws

-- ===================================================================== one record after another

/-- What the turn of each member of a list brings about, and no turn undoes, holds for all at the end. -/
theorem foldl_reaches {σ ι : Type} {f : σ → ι → σ} {P : ι → σ → Prop} (hto : ∀ i s, P i (f s i))
    (hkeep : ∀ i j s, P j s → P j (f s i)) (l : List ι) (s : σ) : ∀ i ∈ l, P i (l.foldl f s) := by
  have hstay (j : ι) (l : List ι) (s : σ) (h : P j s) : P j (l.foldl f s) := by
    induction l generalizing s with
    | nil => exact h
    | cons a l ih => exact ih _ (hkeep a j s h)
  induction l generalizing s with
  | nil => exact fun i hi => absurd hi List.not_mem_nil
  | cons a l ih =>
    refine List.forall_mem_cons.2 ⟨hstay a l _ (hto a s), ih _⟩

theorem mem_recIds (id : RecId) : id ∈ RecId.all := by
  cases id with
  | station | capture => decide
  | general k | groupA k | groupB k | sectionRec k | partner k | terminal k =>
    revert k
    decide

-- ===================================================================== the live records (R209)

/-- Two sets have the same record under an identifier. -/
def sameRecord (c d : Settings) : RecId → Prop
  | .station => c.station = d.station
  | .general k => c.general[k] = d.general[k]
  | .groupA k => c.groupA[k] = d.groupA[k]
  | .groupB k => c.groupB[k] = d.groupB[k]
  | .sectionRec k => c.sections[k] = d.sections[k]
  | .partner j => c.partners[j] = d.partners[j]
  | .terminal i => c.terminals[i] = d.terminals[i]
  | .capture => c.capture = d.capture

theorem set_agrees {α : Type} {n : Nat} {v w : Vector α n} {j : Fin n} (h : v[j] = w[j]) (i : Fin n) :
    (v.set i w[i])[j] = w[j] := by
  by_cases hij : j = i
  · rw [hij, set_same]
  · rw [set_other _ _ hij, h]

theorem copyOne_sameRecord (d : Settings) (id : RecId) (c : Settings) : sameRecord (c.copyOne d id) d id := by
  cases id with
  | station | capture => rfl
  | general _ | groupA _ | groupB _ | sectionRec _ | partner _ | terminal _ => exact set_same ..

theorem copyOne_keeps (d : Settings) (id other : RecId) (c : Settings) (h : sameRecord c d other) :
    sameRecord (c.copyOne d id) d other := by
  cases other with
  | station => cases id with | station => rfl | _ => exact h
  | general k => cases id with | general i => exact set_agrees h i | _ => exact h
  | groupA k => cases id with | groupA i => exact set_agrees h i | _ => exact h
  | groupB k => cases id with | groupB i => exact set_agrees h i | _ => exact h
  | sectionRec k => cases id with | sectionRec i => exact set_agrees h i | _ => exact h
  | partner k => cases id with | partner i => exact set_agrees h i | _ => exact h
  | terminal k => cases id with | terminal i => exact set_agrees h i | _ => exact h
  | capture => cases id with | capture => rfl | _ => exact h

theorem eq_of_sameRecord {c d : Settings} (h : ∀ id, sameRecord c d id) : c = d := by
  cases c
  cases d
  rw [Settings.mk.injEq]
  exact ⟨h .station, Vector.ext fun i hi => h (.general ⟨i, hi⟩), Vector.ext fun i hi => h (.groupA ⟨i, hi⟩),
    Vector.ext fun i hi => h (.groupB ⟨i, hi⟩), Vector.ext fun i hi => h (.sectionRec ⟨i, hi⟩),
    Vector.ext fun i hi => h (.partner ⟨i, hi⟩), Vector.ext fun i hi => h (.terminal ⟨i, hi⟩), h .capture⟩

/-- Every record taken over makes the set the other one. -/
theorem copyAll_eq (c d : Settings) : RecId.all.foldl (fun c id => c.copyOne d id) c = d :=
  eq_of_sameRecord fun id => foldl_reaches (f := fun c id => c.copyOne d id) (P := fun id c => sameRecord c d id)
    (copyOne_sameRecord d) (copyOne_keeps d) RecId.all c id (mem_recIds id)

/-- The step of Load Defaults for one record. -/
def defaultTaken (s : State) (id : RecId) : State := s.replaceRecord (s.cfg.copyOne .default id) id

/-- The state in which the owner is handed its default. -/
def defaultLive (s : State) (id : RecId) : State :=
  { s with sst := { s.sst with live := s.cfg.copyOne .default id, confirm := s.sst.confirm || s.sst.lost } }

theorem defaultTaken_eq (s : State) (id : RecId) : defaultTaken s id = (defaultLive s id).handRecord s.cfg id := rfl

theorem defaults_sst (l : List RecId) (s : State) :
    (l.foldl defaultTaken s).sst = { s.sst with
      live := l.foldl (fun c id => c.copyOne .default id) s.sst.live
      confirm := if l = [] then s.sst.confirm else s.sst.confirm || s.sst.lost } := by
  induction l generalizing s with
  | nil => rfl
  | cons a l ih =>
    have hstep : (defaultTaken s a).sst = (defaultLive s a).sst := handRecord_sst s.cfg a _
    rw [List.foldl_cons, ih, hstep]
    by_cases hl : l = [] <;> simp [hl, defaultLive, State.cfg]

-- ===================================================================== what no record touches

/-- The owners of settings records have acted: nothing of acquisition, synchronisation, measurement or time changes. -/
structure OwnersAct (s t : State) : Prop where
  uset : t.uset = s.uset
  aqu : t.aqu = s.aqu
  sync : t.sync = s.sync
  bfb : t.bfb = s.bfb
  elapsed : t.elapsed = s.elapsed
  energy : t.energy = s.energy
  avg : t.avg = s.avg
  pending : t.pending = s.pending
  grow : EventsGrow s.events t.events

theorem OwnersAct.refl (s : State) : OwnersAct s s := ⟨rfl, rfl, rfl, rfl, rfl, rfl, rfl, rfl, .refl _⟩

theorem OwnersAct.trans {s t u : State} (h : OwnersAct s t) (h' : OwnersAct t u) : OwnersAct s u :=
  ⟨h'.uset.trans h.uset, h'.aqu.trans h.aqu, h'.sync.trans h.sync, h'.bfb.trans h.bfb, h'.elapsed.trans h.elapsed,
    h'.energy.trans h.energy, h'.avg.trans h.avg, h'.pending.trans h.pending, h.grow.trans h'.grow⟩

theorem Reacts.owners {s t : State} (h : Reacts s t) : OwnersAct s t :=
  ⟨h.uset, h.aqu, h.sync, h.bfb, h.elapsed, h.energy, h.avg, h.pending, h.grow⟩

theorem entryReplaced_owners (j : Fin 4) (old : PartnerCfg) (s : State) : OwnersAct s (entryReplaced j old s) := by
  obtain ⟨-, -, -, h⟩ := entryReplaced_spec j old s
  have hgrow : EventsGrow s.events (reconfiguredEvents j s) := by
    unfold reconfiguredEvents
    split
    · exact (EventsGrow.refl _).push _
    · exact .refl _
  rw [h]
  exact ⟨rfl, rfl, rfl, rfl, rfl, rfl, rfl, rfl, hgrow⟩

/-- A PARTNER record replaced: the entry, then sections and feeders. -/
theorem partnerReplaced_acts (j : Fin 4) (old : PartnerCfg) (s : State) :
    FeederActs (entryReplaced j old s) (s.partnerReplaced j old) := by
  have hclear : FeederActs (entryReplaced j old s) ((entryReplaced j old s).clearSections j) :=
    (FeederActs.refl _).clearSections
  rw [partnerReplaced_eq]
  exact .ite hclear.handLinkLost hclear

theorem handRecord_owners (old : Settings) (id : RecId) (s : State) : OwnersAct s (s.handRecord old id) := by
  cases id with
  | station => exact (StationActs.refl s).stationReplaced.reacts.owners
  | sectionRec k => exact (FeederActs.refl s).sectionReplaced.reacts.owners
  | partner j => exact (entryReplaced_owners j _ s).trans (partnerReplaced_acts j _ s).reacts.owners
  | terminal i =>
    obtain ⟨huset, haqu, hsync, hbfb, helapsed, henergy, havg, hpending, hgrow⟩ := (applyTerminal_reacts i
      s.cfg.terminals[i] s).owners
    exact ⟨huset, haqu, hsync, hbfb, helapsed, henergy, havg, hpending, hgrow⟩
  | general _ | groupA _ | groupB _ | capture => exact .refl s

theorem defaults_owners (l : List RecId) (s : State) : OwnersAct s (l.foldl defaultTaken s) := by
  induction l generalizing s with
  | nil => exact .refl s
  | cons a l ih =>
    obtain ⟨huset, haqu, hsync, hbfb, helapsed, henergy, havg, hpending, hgrow⟩ :=
      handRecord_owners s.cfg a (defaultLive s a)
    exact OwnersAct.trans ⟨huset, haqu, hsync, hbfb, helapsed, henergy, havg, hpending, hgrow⟩ (ih _)

-- ===================================================================== the sections (R43, R46, R47)

/-- Section k knows nothing of a partner and is fed as SINGLE. -/
structure FedSingle (k : Fin 6) (s : State) : Prop where
  double : s.sec[k].double = false
  summary : s.sec[k].summary = .unknown
  itTelegram : s.sec[k].itTelegram = false

section single

variable {k j : Fin 6} {s t : State}

theorem fedSingle_of_sec (h : FedSingle k s) (hs : t.sec[k] = s.sec[k]) : FedSingle k t :=
  ⟨by rw [hs]; exact h.double, by rw [hs]; exact h.summary, by rw [hs]; exact h.itTelegram⟩

/-- No action of a feeder sequence changes that. -/
theorem FedSingle.run (h : FedSingle k s) (hr : FeederRun j s t) : FedSingle k t := by
  by_cases hkj : k = j
  · subst hkj
    obtain ⟨o, r, hown⟩ := hr.own
    exact ⟨by rw [hown]; exact h.double, by rw [hown]; exact h.summary, by rw [hown]; exact h.itTelegram⟩
  · exact fedSingle_of_sec h (hr.sameFeeder hkj).sec

theorem FedSingle.ite {c : Prop} [Decidable c] (h : FedSingle k s) (h' : FedSingle k t) :
    FedSingle k (if c then s else t) := by split <;> assumption

/-- The terminal part of a section is no part of it. -/
theorem FedSingle.setItTerminal (h : FedSingle k s) (b : Bool) :
    FedSingle k (s.setSec j { s.sec[j] with itTerminal := b }) := by
  by_cases hkj : k = j
  · subst hkj
    have hself := State.setSec_self k { s.sec[k] with itTerminal := b } s
    exact ⟨by rw [hself]; exact h.double, by rw [hself]; exact h.summary, by rw [hself]; exact h.itTelegram⟩
  · exact fedSingle_of_sec h (State.setSec_other _ _ _ _ (Ne.symm hkj))

/-- A replaced SECTION record makes its section so. -/
theorem sectionReplaced_fedSingle (k : Fin 6) (s : State) : FedSingle k (s.sectionReplaced k) := by
  obtain ⟨o, r, e, h⟩ := handSection_eq k s.sec[k] (s.setSec k s.sec[k].clearPartner)
  have hself := State.setSec_self k s.sec[k].clearPartner s
  have hsec : (s.sectionReplaced k).sec[k] = { s.sec[k].clearPartner with itOut := o, role := r, double := false } := by
    rw [State.sectionReplaced, h, hself, fedDouble_unknown k _ (by rw [hself]; rfl)]
    exact set_same ..
  exact ⟨by rw [hsec], by rw [hsec]; rfl, by rw [hsec]; rfl⟩

theorem FedSingle.sectionReplaced (h : FedSingle k s) : FedSingle k (s.sectionReplaced j) := by
  by_cases hkj : k = j
  · subst hkj
    exact sectionReplaced_fedSingle k s
  · refine fedSingle_of_sec h ((handSection_other j k s.sec[j] _ hkj).sec.trans ?_)
    exact State.setSec_other _ _ _ _ (Ne.symm hkj)

theorem FedSingle.clearSections {p : Fin 4} (h : FedSingle k s) : FedSingle k (s.clearSections p) := by
  obtain ⟨v, e, -, heq, hv⟩ := clearSections_spec p s
  have hsec : (s.clearSections p).sec[k] = if s.names k p = true then clearedSection s.sec[k] else s.sec[k] := by
    rw [heq]
    exact hv k
  split at hsec
  · exact ⟨by rw [hsec]; rfl, by rw [hsec]; rfl, by rw [hsec]; rfl⟩
  · exact fedSingle_of_sec h hsec

theorem FedSingle.handLinkLost {p : Fin 4} (h : FedSingle k s) : FedSingle k (s.handLinkLost p) := by
  unfold State.handLinkLost
  induction feeders6 generalizing s with
  | nil => exact h
  | cons a l ih => exact ih (.ite (h.run FeederRun.refl.linkLost) h)

theorem FedSingle.partnerReplaced {p : Fin 4} {old : PartnerCfg} (h : FedSingle k s) :
    FedSingle k (s.partnerReplaced p old) := by
  have hsec : (entryReplaced p old s).sec = s.sec := State.setPort_sec ..
  have hentry : FedSingle k (entryReplaced p old s) := fedSingle_of_sec h (by rw [hsec])
  rw [partnerReplaced_eq]
  exact .ite hentry.clearSections.handLinkLost hentry.clearSections

theorem FedSingle.handFirst {fn : TermFn} {b : Bool} (h : FedSingle k s) : FedSingle k (s.handFirst fn b) := by
  cases fn with
  | itIn i => exact (h.setItTerminal b).run FeederRun.refl.handIntertrip
  | tempTrip g =>
    have hsec : (s.setTemp g b).sec = s.sec := (StationActs.refl s).setTemp.sec
    exact fedSingle_of_sec h (congrArg (·[k]) hsec)
  | none | localReset _ | rplOut | rplFb | itOut _ | alarmOut => exact h

theorem FedSingle.leaveFunction {fn : TermFn} (h : FedSingle k s) : FedSingle k (s.leaveFunction fn) := by
  cases fn with
  | itIn i => exact h.setItTerminal false
  | tempTrip g =>
    have hsec : (s.setTemp g false).sec = s.sec := (StationActs.refl s).setTemp.sec
    exact fedSingle_of_sec h (congrArg (·[k]) hsec)
  | rplOut => exact fedSingle_of_sec h rfl
  | none | localReset _ | rplFb | itOut _ | alarmOut => exact h

theorem FedSingle.applyTerminal {i : Fin 16} {c : TermCfg} (h : FedSingle k s) : FedSingle k (s.applyTerminal i c) := by
  have hleft : FedSingle k (functionLeft i c s) := .ite h h.leaveFunction
  have hset : FedSingle k ((functionLeft i c s).setTerm i (s.term[i].apply c (s.lines.getLsbD i.val))) :=
    fedSingle_of_sec hleft rfl
  rw [applyTerminal_eq]
  exact .ite hset.handFirst hset

theorem FedSingle.handRecord {old : Settings} {id : RecId} (h : FedSingle k s) : FedSingle k (s.handRecord old id) := by
  cases id with
  | station =>
    have hsec : s.stationReplaced.sec = s.sec := (StationActs.refl s).stationReplaced.sec
    exact fedSingle_of_sec h (congrArg (·[k]) hsec)
  | sectionRec i => exact h.sectionReplaced
  | partner p => exact h.partnerReplaced
  | terminal i => exact h.applyTerminal
  | general _ | groupA _ | groupB _ | capture => exact h

end single

-- ===================================================================== the terminals (R167)

/-- Of the records handed on only that of a terminal changes the terminal's. -/
theorem handRecord_term (old : Settings) (id : RecId) (i : Fin 16) (s : State) :
    (s.handRecord old id).term[i].cfg = if id = .terminal i then s.cfg.terminals[i] else s.term[i].cfg := by
  cases id with
  | station =>
    have hterm : s.stationReplaced.term = s.term := (StationActs.refl s).stationReplaced.reacts.term
    exact congrArg (·[i].cfg) hterm
  | sectionRec k =>
    have hterm : (s.sectionReplaced k).term = s.term := (FeederActs.refl s).sectionReplaced.reacts.term
    exact congrArg (·[i].cfg) hterm
  | partner j =>
    have hterm : (s.partnerReplaced j old.partners[j]).term = s.term :=
      (partnerReplaced_acts j _ s).reacts.term.trans (State.setPort_term ..)
    exact congrArg (·[i].cfg) hterm
  | terminal t =>
    refine (applyTerminal_term t i s.cfg.terminals[t] s).trans ?_
    by_cases hit : i = t
    · rw [if_pos hit, if_pos (by rw [hit]), hit]
    · rw [if_neg hit, if_neg fun h => hit (RecId.terminal.inj h).symm]
  | general _ | groupA _ | groupB _ | capture => rfl

theorem default_terminals (i : Fin 16) :
    Settings.default.terminals[i] = { mode := .inPlain, fn := .none, eventEnable := false, source := none } := by
  revert i
  decide

-- ===================================================================== every record (R209)

/-- What the owner of a record has made of its default. -/
def Defaulted : RecId → State → Prop
  | .sectionRec k, s => FedSingle k s
  | .terminal i, s => s.term[i].cfg = Settings.default.terminals[i]
  | _, _ => True

theorem defaultTaken_reaches (id : RecId) (s : State) : Defaulted id (defaultTaken s id) := by
  rw [defaultTaken_eq]
  cases id with
  | sectionRec k => exact sectionReplaced_fedSingle k _
  | terminal i => exact (handRecord_term s.cfg (.terminal i) i _).trans ((if_pos rfl).trans (set_same ..))
  | station | general _ | groupA _ | groupB _ | partner _ | capture => trivial

theorem defaultTaken_keeps (id other : RecId) (s : State) (h : Defaulted other s) :
    Defaulted other (defaultTaken s id) := by
  by_cases hid : id = other
  · rw [hid]
    exact defaultTaken_reaches other s
  rw [defaultTaken_eq]
  cases other with
  | sectionRec k => exact FedSingle.handRecord (s := defaultLive s id) ⟨h.double, h.summary, h.itTelegram⟩
  | terminal i => exact (handRecord_term s.cfg id i _).trans ((if_neg hid).trans h)
  | station | general _ | groupA _ | groupB _ | partner _ | capture => trivial

/-- Settles O43: the load and the store by their equations, Load Defaults record by record. -/
theorem settingsLoadedStoredDefaulted : Obligations.SettingsLoadedStoredDefaulted := by
  have hf : payloadFits [] = true := payloadFits_of_length 0 rfl
  refine ⟨fun c s hq ha haddr => ⟨fun hcrc hc => ?good, fun h => ?bad⟩,
    fun tag s => ⟨fun hr ha => ?storeBusy, fun hr ha => ?storeTaken, fun c hq ha hc => ⟨image_length c, ?stored⟩⟩,
    fun tag s hr => ⟨fun ha => ?busy, fun ha hm => ?refused, fun ha hm => ?defaults⟩⟩
  case good => exact next_settled hq (loadDone_good ha haddr (loadable_some hcrc hc))
  case bad => exact next_settled hq (loadDone_bad ha haddr (loadable_none h))
  case storeBusy => exact answers_of_ready hr rfl hf (if_pos ha)
  case storeTaken => exact answers_of_ready hr rfl hf (if_neg (not_not.2 ha))
  case stored => exact next_settled hq (storeDone_storing ha hc)
  case busy => exact answers_of_ready hr rfl hf (if_pos ha)
  case refused => exact answers_of_ready hr rfl hf ((if_neg (not_not.2 ha)).trans (if_neg hm))
  case defaults =>
    refine ⟨RecId.all.foldl defaultTaken s.heard, answers_of_ready hr rfl hf
      ((if_neg (not_not.2 ha)).trans (if_pos hm)), ?_, fun k => ?_, fun i => ?_, ?_⟩
    · rw [defaults_sst, copyAll_eq]
      rfl
    · obtain ⟨hdouble, hsummary, htelegram⟩ := foldl_reaches defaultTaken_reaches defaultTaken_keeps RecId.all s.heard
        (.sectionRec k) (mem_recIds _)
      exact ⟨hdouble, hsummary, htelegram⟩
    · exact (foldl_reaches defaultTaken_reaches defaultTaken_keeps RecId.all s.heard (.terminal i)
        (mem_recIds _)).trans (default_terminals i)
    · obtain ⟨huset, haqu, hsync, hbfb, helapsed, henergy, havg, hpending, hgrow⟩ :=
        defaults_owners RecId.all s.heard
      exact ⟨huset, haqu, hsync, hbfb, helapsed, henergy, havg, hpending, hgrow⟩

end Sys2Proof.Proofs
end

section
/-! The three resets (R154, R204): each leaves the reset state with its cause, and keeps what is not the part's own or
outlasts a reset (R208, R210). -/
namespace Sys2Proof.Proofs

open Sys2Proof Sys2Proof.Machine Sys2Proof.Laws

/-- A breaker feedback filter after a reset starts its first millisecond at the raw level it had (R158). -/
theorem afterReset_bfb (cause : RestartCause) (straps : Byte) (s : State) (k : Fin 6) :
    (s.afterReset cause straps).bfb[k] =
      { raw := s.bfb[k].raw, reported := false, settled := false, filter := some 10 } := getElem_vmap _ _ _ _

/-- A reply that ends while a Restart waits on it resets the part under the straps it read before (R154, R204). -/
theorem replyDone_restart {s : State} {r : Reply} (hr : s.cmp.reply = some r) (hp : s.cmp.restartPending = true) :
    s.replyDone = s.afterReset .restartRequest s.straps := by
  rw [State.replyDone, hr]
  exact if_pos hp

/-- Settles O3: every one of the three commands ends in the one reset. -/
theorem everyResetLeavesResetState : Obligations.EveryResetLeavesResetState := by
  refine ⟨fun straps s c cause hc => ⟨s.afterReset cause straps, ?line, rfl, afterReset_bfb cause straps s⟩,
    fun r s hq hr hp => ⟨s.afterReset .restartRequest s.straps, ?reply, rfl, afterReset_bfb _ _ s⟩⟩
  case line => obtain ⟨rfl, rfl⟩ | ⟨rfl, rfl⟩ := hc <;> rfl
  case reply => exact next_settled hq (replyDone_restart hr hp)

end Sys2Proof.Proofs
end

section
/-! The rail potential element (R148..R150): its operation with and without a contactor, the hold and its end, the ageing of
its history, and Reset Rail Earthing. -/
namespace Sys2Proof.Proofs

open Sys2Proof Sys2Proof.Machine Sys2Proof.Laws

-- ===================================================================== the conditions of the element

/-- One component at least satisfies a test. -/
theorem vany_iff {α : Type} {n : Nat} {p : α → Bool} {v : Vector α n} : vany p v = true ↔ ∃ i : Fin n, p v[i] = true := by
  unfold vany
  rw [List.any_eq_true]
  constructor
  · rintro ⟨x, hx, hp⟩
    obtain ⟨i, hi, rfl⟩ := Vector.mem_iff_getElem.1 (Vector.mem_toList_iff.1 hx)
    exact ⟨⟨i, hi⟩, hp⟩
  · rintro ⟨i, hp⟩
    exact ⟨v[i], Vector.mem_toList_iff.2 (Vector.getElem_mem i.isLt), hp⟩

/-- A contactor is fitted where a terminal is assigned RPL_OUT (R150). -/
theorem rplFitted_iff (s : State) : s.rplFitted = true ↔ ∃ i : Fin 16, s.term[i].cfg.fn = .rplOut := by
  simp only [State.rplFitted, vany_iff, beq_iff_eq]

theorem railDue_iff (s : State) :
    s.railDue = true ↔
      s.sts.contact = .released ∧ s.sts.urInService = true ∧ (s.sts.stage1Due = true ∨ s.sts.stage2Due = true) := by
  simp [State.railDue, and_assoc]

-- ===================================================================== its operation (R148, R150)

section operation

variable {s : State} (hdue : s.railDue = true)
include hdue

/-- With no contactor an operation is logged with its stage, and nothing is held. -/
theorem railOperate_unfitted (hf : s.rplFitted = false) :
    s.railOperate = { s with
      sts := s.sts.zeroStages
      events := pushEvent s.events
        (s.event .sts 0 .railEarth (uword (railActionCode .operated)) (uword s.sts.railStage) .none) } := by
  have hunfit : (!s.rplFitted) = true := by rw [hf]; rfl
  exact (if_pos hdue).trans (if_pos hunfit)

variable (hf : s.rplFitted = true) {young : List Time} (hy : s.prune 60000 s.sts.railHistory = young)
include hf hy

/-- The two ways a fitted contactor closes: held with the operation remembered, or latched. -/
theorem railOperate_fitted :
    s.railOperate =
      if young.length < 2 then
        { s with
          sts := { s.sts.zeroStages with
            contact := .held, hold := some (s.station.tRpl * 1000), railHistory := young ++ [s.elapsed] }
          events := pushEvent s.events
            (s.event .sts 0 .railEarth (uword (railActionCode .operated)) (uword s.sts.railStage) .none) }
      else
        { s with
          sts := { s.sts.zeroStages with contact := .latched, hold := none, railHistory := young }
          events := pushEvent s.events
            (s.event .sts 0 .railEarth (uword (railActionCode .latched)) (uword s.sts.railStage) .none) } := by
  have hfit : ¬ (!s.rplFitted) = true := by rw [hf]; decide
  subst hy
  exact (if_pos hdue).trans (if_neg hfit)

end operation

-- ===================================================================== the end of the hold (R149)

/-- The end of a hold: the release, or the hold once more. -/
theorem holdExpiry_expired {s : State} (hc : s.sts.contact = .held) (hh : s.sts.hold = some 0) :
    s.holdExpiry =
      if (s.reading chUR).health = .good ∧ s.railMagnitude < s.station.urpSet then
        { s with
          sts := { s.sts with contact := .released, hold := none }
          events := pushEvent s.events
            (s.event .sts 0 .railEarth (uword (railActionCode .released)) (uword s.railMagnitude) .none) }
      else
        { s with
          sts := { s.sts with hold := some (s.station.tRpl * 1000) }
          events := pushEvent s.events
            (s.event .sts 0 .railEarth (uword (railActionCode .holdRestarted))
              (uword (if (s.reading chUR).health = .good then s.railMagnitude else 0)) .none) } :=
  if_pos ⟨hc, (expired_iff _).2 hh⟩

theorem holdExpiry_running {s : State} (h : s.sts.contact ≠ .held ∨ s.sts.hold ≠ some 0) : s.holdExpiry = s :=
  if_neg fun ⟨hc, hh⟩ => h.elim (· hc) (· ((expired_iff _).1 hh))

-- ===================================================================== the history (R149)

/-- The ageing of a history with an oldest entry. -/
theorem age_cons (limit : Nat) (e : Time) (rest : List Time) (s : State) :
    s.age limit (e :: rest) = if limit ≤ (s.elapsed - e).toNat then rest else e :: rest := rfl

/-- The operations that are left once the oldest has aged. -/
theorem railAged_eq {s : State} {h : List Time} (hh : s.age 60000 s.sts.railHistory = h) :
    s.railAged = { s with sts := { s.sts with railHistory := h } } := by
  rw [← hh]
  rfl

theorem railAged_same {s : State} (hh : s.age 60000 s.sts.railHistory = s.sts.railHistory) : s.railAged = s :=
  railAged_eq hh

/-- Settles O46: the operation, the hold's end and the ageing by their equations. -/
theorem railContactHeldLatchedReleased : Obligations.RailContactHeldLatchedReleased := by
  intro s young stage zero mag q
  refine ⟨fun hdue hf hfew => ?held, fun hdue hf hmany => ?latched, fun hq hc hh hgood hlow => ?released,
    fun hq hc hh hstays => ?restarted, fun hq h => next_settled hq (holdExpiry_running h),
    fun hq hh => ?none, fun hq e rest hh => ⟨fun hage => ?young, fun hage => ?old⟩⟩
  case held => exact congrArg Host.Outcome.next ((railOperate_fitted hdue hf rfl).trans (if_pos hfew))
  case latched => exact congrArg Host.Outcome.next ((railOperate_fitted hdue hf rfl).trans (if_neg hmany.not_gt))
  case released => exact next_settled hq ((holdExpiry_expired hc hh).trans (if_pos ⟨hgood, hlow⟩))
  case restarted =>
    have hkept : ¬ ((s.reading chUR).health = .good ∧ s.railMagnitude < s.station.urpSet) :=
      fun ⟨hgood, hlow⟩ => hstays.elim (· hgood) hlow.not_ge
    exact next_settled hq ((holdExpiry_expired hc hh).trans (if_neg hkept))
  case none => exact next_settled hq (railAged_same (by rw [hh]; rfl))
  case young => exact next_settled hq (railAged_same (by rw [hh, age_cons, if_neg hage.not_ge]))
  case old => exact next_settled hq (railAged_eq (by rw [hh, age_cons, if_pos hage]))

-- ===================================================================== Reset Rail Earthing (R150)

/-- The stage an operation names, as the event carries it. -/
theorem uword_railStage (r : Sts) : uword r.railStage = if r.stage2Due = true then 2 else 1 :=
  apply_ite uword ..

theorem answerResetRail_nil (s : State) :
    s.answerResetRail [] =
      if s.sts.mode = .start then s.refuse (.mode s.sts.mode)
      else if (!s.rplFitted) = true then s.notFitted
      else if s.sts.contact = .latched then s.railReset.ok .empty
      else s.refuse (.contact s.sts.contact) := rfl

/-- Settles O47: the four outcomes of the request in the order they are tried, and the operation without a contactor. -/
theorem resetRailReleasesLatched : Obligations.ResetRailReleasesLatched := by
  intro tag s c fitted
  have hpl : payloadFits [] = true := payloadFits_of_length 0 rfl
  have hanswer := answerResetRail_nil s.heard
  have hfitted : fitted → ¬ (!s.rplFitted) = true := fun hf => by rw [(rplFitted_iff s).2 hf]; decide
  have hunfitted : ¬ fitted → s.rplFitted = false := fun hf => Bool.eq_false_iff.2 fun h => hf ((rplFitted_iff s).1 h)
  refine ⟨fun hr hm => ?start, fun hr hm hf => ?unfitted, fun hr hm hf hc => ?refused, fun hr hm hf hc => ?taken,
    fun hc hs hstage hf => ?operated⟩
  case start =>
    rw [← hm]
    exact answers_of_ready hr rfl hpl (hanswer.trans (if_pos hm))
  case unfitted =>
    have hno : (!s.rplFitted) = true := by rw [hunfitted hf]; rfl
    exact answers_of_ready hr rfl hpl (hanswer.trans ((if_neg hm).trans (if_pos hno)))
  case refused =>
    exact answers_of_ready hr rfl hpl
      (hanswer.trans ((if_neg hm).trans ((if_neg (hfitted hf)).trans (if_neg hc))))
  case taken =>
    exact answers_of_ready hr rfl hpl
      (hanswer.trans ((if_neg hm).trans ((if_neg (hfitted hf)).trans (if_pos hc))))
  case operated =>
    have hop := railOperate_unfitted ((railDue_iff s).2 ⟨hc, hs, hstage⟩) (hunfitted hf)
    rw [uword_railStage] at hop
    exact congrArg Host.Outcome.next hop

end Sys2Proof.Proofs
end

section
/-! Read Station Status, Set Time and Restart (R147, R154..R156, R204). -/
namespace Sys2Proof.Proofs

open Sys2Proof Sys2Proof.Machine Sys2Proof.Laws

-- ===================================================================== the number that bytes spell (section 11.3)

theorem foldl_beBytes (k n a : Nat) :
    (beBytes k n).foldl (fun a b => a * 256 + b.toNat) a = a * 256 ^ k + n % 256 ^ k := by
  induction k generalizing a with
  | zero => simp [beBytes, Nat.mod_one]
  | succ k ih =>
    rw [beBytes, List.foldl_cons, ih, BitVec.toNat_ofNat, Nat.mod_pow_succ (b := 256)]
    ring

/-- A field of its own bytes reads the number it was written from. -/
theorem field_beBytes {k n : Nat} (h : n < 256 ^ k) : field (beBytes k n) 0 k = n := by
  have hbytes : ((beBytes k n).drop 0).take k = beBytes k n :=
    List.take_of_length_le (Nat.le_of_eq (beBytes_length k n))
  rw [field, hbytes, beNat, foldl_beBytes, Nat.mod_eq_of_lt h, Nat.zero_mul, Nat.zero_add]

-- ===================================================================== the conditions the status returns (R138, R147)

theorem addressInvalid_iff (a : Option Byte) :
    addressInvalid a = true ↔ ∃ b, a = some b ∧ (b.toNat = 0 ∨ 250 < b.toNat) := by
  cases a <;> simp [addressInvalid]

/-- The frame fault element is suspended while the contactor is commanded closed, by the element or by the backup logic,
or reads closed (R145, R147). -/
theorem suspended_iff (s : State) :
    s.suspended = true ↔
      s.sts.contact ≠ .released ∨ (s.aqu.clock = .fail ∧ ∃ i : Fin 16, s.term[i].cfg.fn = .rplOut) ∨
        s.rplFeedback = some true := by
  rw [← rplFitted_iff]
  simp [State.suspended, State.inClockFail, or_assoc]

-- ===================================================================== the requests

/-- Set Time with the six bytes of a time (R155). -/
theorem answerSetTime_beBytes {ms : Nat} (h : ms < 2 ^ 48) (s : State) :
    s.answerSetTime (beBytes 6 ms) =
      ({ s with stationTime := BitVec.ofNat 48 ms, unset := false } : State).ok .empty := by
  rw [State.answerSetTime, withLength_good _ _ _ _ (beBytes_length 6 ms), field_beBytes h]

/-- Settles O50: the status read field by field, Set Time by the number its bytes spell, and Restart. -/
theorem statusTimeRestartAnswered : Obligations.StatusTimeRestartAnswered := by
  refine fun ms tag s hr hms => ⟨⟨s.heard.stationStatus, ?status⟩, ?time, ?restart⟩
  case status =>
    exact ⟨answers_of_ready hr rfl (payloadFits_of_length 0 rfl) rfl, rfl, rfl, rfl, rfl, rfl, rfl, rfl, rfl,
      addressInvalid_iff s.sts.address, rfl, rfl, rfl, rfl, rfl, rfl, rfl, rfl, rfl, rfl, rfl, rfl,
      suspended_iff s.heard, rfl, rfl, rfl⟩
  case time =>
    exact answers_of_ready hr rfl (payloadFits_of_length 6 (beBytes_length 6 ms)) (answerSetTime_beBytes hms s.heard)
  case restart => exact answers_of_ready hr rfl (payloadFits_of_length 0 rfl) rfl

end Sys2Proof.Proofs
end

section
/-! The breaker feedback (R33, R50, R62, R64, R66, R67, R143, R158): its filter, and what a reported close or opening
does in each feeder state. -/
namespace Sys2Proof.Proofs

open Sys2Proof Sys2Proof.Machine Sys2Proof.Laws

-- ===================================================================== the filter (R158)

section filter

variable {k : Fin 6} {s : State}

/-- A change of the raw level: none, a filter run begun or discarded, or noted in the first millisecond. -/
theorem rawChange_same {b : Bfb} {level : Bool} (h : b.raw = level) : b.rawChange level = b := if_pos h

theorem rawChange_settled {b : Bfb} {level : Bool} (h : b.raw ≠ level) (hs : b.settled = true) :
    b.rawChange level =
      { b with raw := level, filter := if level = b.reported then none else some 10 } :=
  (if_neg h).trans (if_neg (by rw [hs]; decide))

theorem rawChange_early {b : Bfb} {level : Bool} (h : b.raw ≠ level) (hs : b.settled = false) :
    b.rawChange level = { b with raw := level } :=
  (if_neg h).trans (if_pos (by rw [hs]; rfl))

/-- BFB_RAW_CHANGE changes the record of its input alone. -/
theorem bfbRawChange_next {level : Bool} {b : Bfb} (hq : s.quiet = true) (hb : s.bfb[k].rawChange level = b) :
    exec (.bfbRawChange k level) s = .next (s.setBfb k b) :=
  next_settled (f := fun s => s.setBfb k (s.bfb[k].rawChange level)) hq (by rw [hb])

theorem setBfb_same (k : Fin 6) (s : State) : s.setBfb k s.bfb[k] = s :=
  congrArg (fun v => { s with bfb := v }) (set_self s.bfb k)

/-- A filter run that has not run out reports nothing. -/
theorem bfbExpiry_running (h : s.bfb[k].filter ≠ some 0) : s.bfbExpiry k = s :=
  if_neg (mt (expired_iff _).1 h)

/-- The first millisecond after reset sets the reported level, and hands no change. -/
theorem bfbExpiry_first (hf : s.bfb[k].filter = some 0) (hs : s.bfb[k].settled = false) :
    s.bfbExpiry k = s.setBfb k s.bfb[k].settle :=
  (if_pos ((expired_iff _).2 hf)).trans (if_neg (Bool.eq_false_iff.1 hs))

/-- s with BFB_k reported at a level by a filter run that has run out. -/
def reportedAt (k : Fin 6) (level : Bool) (s : State) : State :=
  s.setBfb k { s.bfb[k] with reported := level, filter := none }

/-- Every later run that runs out reports the raw level, and hands it. -/
theorem bfbExpiry_reports {level : Bool} (hf : s.bfb[k].filter = some 0) (hs : s.bfb[k].settled = true)
    (hr : s.bfb[k].raw = level) :
    s.bfbExpiry k = (reportedAt k level s).bfbReported k := by
  have hb : s.bfb[k].settle = { s.bfb[k] with reported := level, filter := none } := by
    simp only [Bfb.settle, hr, hs]
  unfold reportedAt
  rw [← hb]
  exact (if_pos ((expired_iff _).2 hf)).trans (if_pos hs)

/-- A cause that is not present has nothing to clear. -/
theorem causeCleared_absent {c : SafeCause} {s : State} (h : s.sts.hasCause c = false) : s.causeCleared c = s :=
  if_neg (Bool.eq_false_iff.1 h)

/-- A report of the breaker closed, and of the breaker open, is handed to the sequence; the latter also clears the SAFE
cause. -/
theorem bfbReported_closed : (reportedAt k true s).bfbReported k = (reportedAt k true s).bfbAsserts k :=
  if_pos (by rw [State.bfbClosed, reportedAt, State.setBfb_self])

theorem bfbReported_open :
    (reportedAt k false s).bfbReported k = ((reportedAt k false s).bfbReleases k).causeCleared (.breakerFail k) :=
  if_neg (by rw [State.bfbClosed, reportedAt, State.setBfb_self]; exact Bool.false_ne_true)

section expiry

variable (hq : s.quiet = true) (hf : s.bfb[k].filter = some 0) (hs : s.bfb[k].settled = true)
include hq hf hs

theorem bfbFilterExpiry_asserts {t : State} (hr : s.bfb[k].raw = true) (ht : (reportedAt k true s).bfbAsserts k = t) :
    exec (.bfbFilterExpiry k) s = .next t :=
  next_settled hq ((bfbExpiry_reports hf hs hr).trans (bfbReported_closed.trans ht))

theorem bfbFilterExpiry_releases {t : State} (hr : s.bfb[k].raw = false)
    (ht : ((reportedAt k false s).bfbReleases k).causeCleared (.breakerFail k) = t) :
    exec (.bfbFilterExpiry k) s = .next t :=
  next_settled hq ((bfbExpiry_reports hf hs hr).trans (bfbReported_open.trans ht))

/-- With no SAFE cause of its own, a breaker that reads released is the sequence's alone. -/
theorem bfbFilterExpiry_opens {t : State} (hr : s.bfb[k].raw = false) (hb : s.sts.breakerFail[k] = false)
    (ht : (reportedAt k false s).bfbReleases k = t) : exec (.bfbFilterExpiry k) s = .next t := by
  have hsts : t.sts = s.sts := by
    rw [← ht]
    exact (FeederActs.refl (reportedAt k false s)).bfbReleases.sts
  have habsent : t.sts.hasCause (.breakerFail k) = false := by
    rw [hsts]
    exact hb
  refine bfbFilterExpiry_releases hq hf hs hr ?_
  rw [ht, causeCleared_absent habsent]

end expiry

/-- What the capture store makes of a trigger does not look at the breaker feedbacks. -/
theorem trigger_reportedAt (k : Fin 6) (level : Bool) (s : State) (n : Nat) :
    ((reportedAt k level s).trigger n).1.cap = (s.trigger n).1.cap ∧
      ((reportedAt k level s).trigger n).2 = (s.trigger n).2 :=
  have h := (show SameCapture s (reportedAt k level s) from ⟨rfl, rfl, rfl, rfl⟩).trigger n
  ⟨h.1.cap, h.2⟩

/-- TRIP_k is released where the breaker reads released, but on the way to open it. -/
theorem tripLine_released {t : State} (hst : t.feeder[k].state ≠ .opening) (hb : t.bfb[k].reported = false) :
    t.tripLine k = false := by
  have hclosed : t.bfbClosed k = false := hb
  rw [State.tripLine, State.tripRecord, hclosed, Bool.and_false, Bool.or_false, beq_false_of_ne hst, ite_self]

end filter

-- ===================================================================== a reported close (R33, R62, R67)

section closes

variable {k : Fin 6} {s : State}

/-- The close of CLOSING is complete. -/
theorem closeDone_spec (h : s.feeder[k].state = .closing) :
    s.closeDone k = { s with
      feeder := s.feeder.set k { s.feeder[k] with
        state := .closed, origin := .none, element := .none, sotf := false, phase := none, dest := none
        blockCause := .none, manual := false
        attempt := if s.feeder[k].manual = true then 0 else s.feeder[k].attempt
        timer := some ((s.general k).tReclaim * 1000) }
      disc := s.disc.set k { s.disc[k] with window := 2000, windowOpen := true }
      sec := s.sec.set k { s.sec[k] with role := .none, itOut := false }
      events := pushEvent s.events
        (s.event .fpu (k.val + 1) .breakerClosed (uword (bit s.feeder[k].manual)) (uword s.feeder[k].path.code)
          .none) } := by
  have hwindow : s.disc[k].onMove .closing .closed = { s.disc[k] with window := 2000, windowOpen := true } := rfl
  unfold State.closeDone
  cases hm : s.feeder[k].manual
  · simp [-Fin.getElem_fin, hm, h, enterClosed_spec, hwindow, State.logFeeder, log_spec, State.event]
  · simp [-Fin.getElem_fin, hm, h, enterClosed_spec, hwindow, State.logFeeder, log_spec, State.event, set_same]

/-- A discriminator whose feeder enters CLOSED from a state outside CLOSING (R32): no close-onto-fault window. -/
theorem onMove_enter (d : Disc) {old : FState} (h : old.active = false) :
    d.onMove old .closed =
      { d with rising := false, rise := none, imaxRun := 0, dtCount := 0, tripGiven := false } := by
  have hold : old ≠ .closing := by
    rintro rfl
    cases h
  have hact : (!old.active && FState.active .closed) = true := by rw [h]; rfl
  have hleave : ¬ (old.active && !FState.active .closed) = true := by rw [h]; decide
  exact (if_neg fun hc => hold hc.1).trans ((if_neg hleave).trans (if_pos hact))

/-- Only LOCKED_OUT has a cause to carry. -/
theorem keptCause_none {f : Feeder} (h : f.state ≠ .lockedOut) : f.keptCause = .none := if_neg h

theorem keptCause_lockedOut {f : Feeder} (h : f.state = .lockedOut) : f.keptCause = f.lockCause := if_pos h

/-- The record of a feeder whose breaker is adopted, its reclaim time n running. -/
def adoptedRec (n : Nat) (f : Feeder) : Feeder :=
  { f with
    state := .closed, origin := .none, element := .none, sotf := false, phase := none, dest := none
    blockCause := .none, manual := false, timer := some n }

/-- A breaker found closed in a state outside CLOSING and CLOSED is adopted. -/
theorem adoptLocal_spec {c : LockCause} (h : s.feeder[k].state.active = false) (hc : s.feeder[k].keptCause = c) :
    s.adoptLocal k = { s with
      feeder := s.feeder.set k (adoptedRec ((s.general k).tReclaim * 1000) s.feeder[k])
      disc := s.disc.set k { s.disc[k] with
        rising := false, rise := none, imaxRun := 0, dtCount := 0, tripGiven := false }
      sec := s.sec.set k { s.sec[k] with role := .none, itOut := false }
      events := pushEvent s.events
        (s.event .fpu (k.val + 1) .breakerClosedLocal (uword s.feeder[k].state.code) (uword c.code) .none) } := by
  unfold State.adoptLocal State.logLocalClose State.logFeeder
  dsimp only
  rw [enterClosed_spec, onMove_enter _ h, hc]
  rfl

/-- LINE_TEST_RESULT of a test that ended INVALID without values (log 15). -/
def invalidEvent (k : Fin 6) (s : State) : Event :=
  s.event .fpu (k.val + 1) .lineTestResult (uword 0) (uword TestOutcome.invalid.code) .none

/-- The record of a feeder whose test ended INVALID without values, n the count of such tests. -/
def testedInvalid (n : Nat) (f : Feeder) : Feeder :=
  { f with lastTest := some { outcome := .invalid, rline := 0, values := none }, liveRun := 0, invalid := n }

/-- A line test whose breaker is found closed ends INVALID, and the breaker is adopted. -/
theorem testInvalid_closed (hst : s.feeder[k].state = .lineTest) (hb : s.bfb[k].reported = true) :
    s.testInvalid k 0 none = { s with
      feeder := s.feeder.set k (adoptedRec ((s.general k).tReclaim * 1000) (testedInvalid
        (if s.feeder[k].manual = true then s.feeder[k].invalid else min 3 (s.feeder[k].invalid + 1)) s.feeder[k]))
      disc := s.disc.set k { s.disc[k] with
        rising := false, rise := none, imaxRun := 0, dtCount := 0, tripGiven := false }
      sec := s.sec.set k { s.sec[k] with role := .none, itOut := false }
      events := pushEvent (pushEvent s.events (invalidEvent k s))
        (s.event .fpu (k.val + 1) .breakerClosedLocal (uword s.feeder[k].state.code) (uword LockCause.none.code)
          .none) } := by
  have htest : s.testInvalid k 0 none = (State.setFeeder k (testedInvalid
      (if s.feeder[k].manual = true then s.feeder[k].invalid else min 3 (s.feeder[k].invalid + 1)) s.feeder[k])
      { s with events := pushEvent s.events (invalidEvent k s) }).adoptLocal k := by
    unfold State.testInvalid
    rw [testResult_spec]
    dsimp only
    rw [set_same]
    cases hm : s.feeder[k].manual <;>
      simp [-Fin.getElem_fin, hm, hb, State.bfbClosed, State.setFeeder, testedInvalid, invalidEvent]
  have hrec (n : Nat) : (testedInvalid n s.feeder[k]).state = s.feeder[k].state := rfl
  rw [htest, adoptLocal_spec (by rw [State.setFeeder_self, hrec, hst]; rfl)
    (keptCause_none (by rw [State.setFeeder_self, hrec, hst]; decide)), State.setFeeder_self, hrec]
  simp [State.setFeeder, State.event, State.general]

end closes

-- ===================================================================== an opening complete (R64, R75, R78, R80, R81)

section openings

variable {k : Fin 6} {ms : Nat} {s : State}

/-- BREAKER_OPENED as an opening that took ms milliseconds logs it. -/
def openedEvent (k : Fin 6) (ms : Nat) (s : State) : Event :=
  s.event .fpu (k.val + 1) .breakerOpened (uword s.feeder[k].origin.code) (uword ms) .none

/-- s with BREAKER_OPENED logged. -/
def openingLogged (k : Fin 6) (ms : Nat) (s : State) : State :=
  { s with events := pushEvent s.events (openedEvent k ms s) }

/-- The destination that each opening goes to once BREAKER_OPENED is logged. -/
theorem openingDone_open (hd : s.feeder[k].dest = some .open) :
    s.openingDone k ms = (openingLogged k ms s).enterOpen k := by
  unfold State.openingDone
  dsimp only
  rw [hd]
  rfl

theorem openingDone_blocked (hd : s.feeder[k].dest = some .blocked) :
    s.openingDone k ms = (openingLogged k ms s).enterBlocked k s.feeder[k].blockCause := by
  unfold State.openingDone
  dsimp only
  rw [hd]
  rfl

theorem openingDone_lockedOut (hd : s.feeder[k].dest = some .lockedOut) :
    s.openingDone k ms = (openingLogged k ms s).lockOut k s.feeder[k].lockCause := by
  unfold State.openingDone
  dsimp only
  rw [hd]
  rfl

theorem openingDone_waitPartner (hd : s.feeder[k].dest = some .waitPartner) :
    s.openingDone k ms = (openingLogged k ms s).enterWait k := by
  unfold State.openingDone
  dsimp only
  rw [hd]
  rfl

/-- The record with which a line test begins in a phase. -/
def begun (ph : TestPhase) (f : Feeder) : Feeder := { f with invalid := 0, phase := some ph }

theorem take_begun (ph : TestPhase) (f : Feeder) (n m : Option Nat) :
    (begun ph (f.take .waitPartner n)).take .lineTest m = (begun ph f).take .lineTest m := by
  simp [begun, Feeder.take, FState.keepsManual]

/-- The two ways a line test begins, by whether the line can be tested (R75). -/
theorem beginTest_eq (k : Fin 6) (s : State) :
    s.beginTest k false =
      if (s.bfbClosed k || s.feeder[k].lost || s.ulFailed k) = true then
        (s.moveFeeder k (begun .retry s.feeder[k]) .lineTest none).testInvalid k 0 none
      else s.moveFeeder k (begun .settle s.feeder[k]) .lineTest (some (s.general k).tLtSettle) := rfl

/-- A partner whose link is DOWN is one the section names, enabled (R80). -/
theorem partnerDown_iff (s : State) (k : Fin 6) :
    s.partnerDown k = true ↔
      ∃ j, s.cfg.sections[k].partner = some j ∧ s.cfg.partners[j].enabled = true ∧ s.link[j].up = false := by
  have hnamed : s.partnerDown k = true ↔ ∃ j, s.partnerOf k = some j ∧ s.link[j].up = false := by
    unfold State.partnerDown
    cases s.partnerOf k <;> simp
  simp only [hnamed, partnerOf_iff, and_assoc]

variable (hact : s.feeder[k].state.active = false)
include hact

theorem enterOpen_inactive :
    s.enterOpen k = { s with
      feeder := s.feeder.set k { s.feeder[k] with
        state := .open, timer := none, phase := none, dest := none, manual := false, blockCause := .none }
      sec := s.sec.set k { s.sec[k] with role := .none } } := by
  rw [enterOpen_spec, onMove_inactive _ hact rfl, set_self]

theorem enterBlocked_inactive (c : BlockCause) :
    s.enterBlocked k c = { s with
      feeder := s.feeder.set k { s.feeder[k] with
        state := .blocked, timer := none, phase := none, dest := none, manual := false, blockCause := c }
      sec := s.sec.set k { s.sec[k] with role := .none } } := by
  rw [enterBlocked_spec, onMove_inactive _ hact rfl, set_self]

theorem lockOut_inactive (c : LockCause) :
    s.lockOut k c = { s with
      feeder := s.feeder.set k { s.feeder[k] with
        state := .lockedOut, lockCause := c, timer := none, phase := none, dest := none, manual := false
        blockCause := .none }
      sec := s.sec.set k { s.sec[k] with role := .none }
      events := pushEvent s.events
        (s.event .fpu (k.val + 1) .lockout (uword c.code) (uword s.feeder[k].attempt) .none) } := by
  rw [lockOut_spec, onMove_inactive _ hact rfl, set_self]

/-- Of two moves outside CLOSING and CLOSED the first leaves nothing but what the second takes over from its record. -/
theorem moveFeeder_moveFeeder {f g g' : Feeder} {st st' : FState} {n m : Option Nat} (hst : st.active = false)
    (hst' : st'.active = false) (hg : g.take st' m = g'.take st' m) :
    (s.moveFeeder k f st n).moveFeeder k g st' m = s.moveFeeder k g' st' m := by
  have hmoved : (s.moveFeeder k f st n).feeder[k].state.active = false := 
    (congrArg (fun f : Feeder => f.state.active) (set_same ..)).trans hst
  rw [moveFeeder_inactive k g st' m _ hmoved hst', moveFeeder_inactive k f st n s hact hst,
    moveFeeder_inactive k g' st' m s hact hst', hg]
  simp [-Fin.getElem_fin, set_same]

/-- An automatic test of an open line ends INVALID and waits for its retry, the first two times. -/
theorem testInvalid_retries {n : Nat} (hb : s.bfb[k].reported = false) (hm : s.feeder[k].manual = false)
    (hi : s.feeder[k].invalid = n) (hn : n < 2) :
    s.testInvalid k 0 none = { s with
      feeder := s.feeder.set k { testedInvalid (n + 1) s.feeder[k] with
        state := .lineTest, phase := some .retry, timer := some 1000, dest := none, manual := false
        blockCause := .none }
      sec := s.sec.set k { s.sec[k] with role := .leader }
      events := pushEvent s.events (invalidEvent k s) } := by
  have hmin : min 3 (n + 1) = n + 1 := by omega
  have hlt : n + 1 < 3 := by omega
  unfold State.testInvalid
  rw [testResult_spec]
  dsimp only
  rw [set_same]
  simp only [hi, hm, hb, hmin, hlt, State.bfbClosed, State.setFeeder_bfb, if_true, if_false, Bool.false_eq_true]
  rw [moveFeeder_inactive]
  · simp [Feeder.take, FState.role, FState.keepsManual, State.setFeeder, testedInvalid, invalidEvent]
  · rw [State.setFeeder_self]
    exact hact
  · rfl

/-- A line test that begins where the line can be tested. -/
theorem beginTest_tests (hb : s.bfb[k].reported = false) (hl : s.feeder[k].lost = false) (hu : s.ulFailed k = false) :
    s.beginTest k false = { s with
      feeder := s.feeder.set k { s.feeder[k] with
        state := .lineTest, phase := some .settle, invalid := 0, timer := some (s.general k).tLtSettle, dest := none
        blockCause := .none }
      sec := s.sec.set k { s.sec[k] with role := .leader } } := by
  have htest : ¬ (s.bfbClosed k || s.feeder[k].lost || s.ulFailed k) = true := by
    simp [-Fin.getElem_fin, State.bfbClosed, hb, hl, hu]
  rw [beginTest_eq, if_neg htest, moveFeeder_inactive k _ _ _ s hact rfl]
  simp [begun, Feeder.take, FState.keepsManual, FState.role]

/-- An automatic line test that begins where the line cannot be tested ends INVALID at once, and waits a second. -/
theorem beginTest_invalid (hb : s.bfb[k].reported = false) (hm : s.feeder[k].manual = false)
    (hx : s.feeder[k].lost = true ∨ s.ulFailed k = true) :
    s.beginTest k false = { s with
      feeder := s.feeder.set k { testedInvalid 1 s.feeder[k] with
        state := .lineTest, phase := some .retry, timer := some 1000, dest := none, manual := false
        blockCause := .none }
      sec := s.sec.set k { s.sec[k] with role := .leader }
      events := pushEvent s.events (invalidEvent k s) } := by
  have htest : (s.bfbClosed k || s.feeder[k].lost || s.ulFailed k) = true := by
    simpa [-Fin.getElem_fin, State.bfbClosed, hb] using hx
  rw [beginTest_eq, if_pos htest, moveFeeder_inactive k _ _ _ s hact rfl, testInvalid_retries (n := 0)]
    <;> simp [-Fin.getElem_fin, set_same, hb, hm, begun, Feeder.take, FState.role, FState.active, State.event,
      testedInvalid, invalidEvent]

/-- WAIT_PARTNER entered with no partner whose link is DOWN. -/
theorem enterWait_stays (hd : s.partnerDown k = false) :
    s.enterWait k = { s with
      feeder := s.feeder.set k { s.feeder[k] with
        state := .waitPartner, timer := some ((s.general k).tWait * 1000), phase := none, dest := none
        blockCause := .none }
      sec := s.sec.set k { s.sec[k] with role := .follower } } := by
  have hstay : s.enterWait k = s.moveFeeder k s.feeder[k] .waitPartner (some ((s.general k).tWait * 1000)) :=
    if_neg (Bool.eq_false_iff.1 hd)
  rw [hstay, moveFeeder_inactive k _ _ _ s hact rfl]
  simp [Feeder.take, FState.keepsManual, FState.role]

/-- A line test begun from WAIT_PARTNER as it is entered is one begun from the state before: a move leaves no trace of
the other. -/
theorem enterWait_tests (hd : s.partnerDown k = true) : s.enterWait k = s.beginTest k false := by
  have hwait : s.enterWait k =
      (s.moveFeeder k s.feeder[k] .waitPartner (some ((s.general k).tWait * 1000))).beginTest k false := if_pos hd
  have hfeeder : (s.moveFeeder k s.feeder[k] .waitPartner (some ((s.general k).tWait * 1000))).feeder[k] =
      s.feeder[k].take .waitPartner (some ((s.general k).tWait * 1000)) := set_same ..
  rw [hwait, beginTest_eq, beginTest_eq, hfeeder, moveFeeder_moveFeeder hact rfl rfl (take_begun ..),
    moveFeeder_moveFeeder hact rfl rfl (take_begun ..)]
  rfl

end openings

-- ===================================================================== a breaker opened again (R67)

/-- An uncommanded close logged, and the breaker opened again for the station or by a manual block. -/
theorem localClose_opened {k : Fin 6} {s : State} {c : LockCause} {p : Cap} {r : CapRef}
    (hact : s.feeder[k].state.active = false) (hc : s.feeder[k].keptCause = c)
    (hp : (s.trigger (srcTrip k)).1.cap = p ∧ (s.trigger (srcTrip k)).2 = r) (o : Origin) (d : Dest)
    (bc : BlockCause) :
    (s.logLocalClose k s.feeder[k]).openBreaker k o .none false d .none bc (s.currentValue k) = { s with
      feeder := s.feeder.set k { s.feeder[k] with
        state := .opening, origin := o, element := .none, sotf := false, dest := some d, phase := none, manual := false
        blockCause := if d = .blocked then (if bc = .none then s.feeder[k].blockCause else bc) else .none
        timer := some (s.general k).tOpenMax, tripAt := s.elapsed }
      sec := s.sec.set k { s.sec[k] with role := .none }
      events := pushEvent
        (pushEvent s.events (s.event .fpu (k.val + 1) .breakerClosedLocal (uword s.feeder[k].state.code)
          (uword c.code) .none))
        (s.event .fpu (k.val + 1) .tripFeeder (pair o.code Element.none.code) (s.currentValue k) r)
      cap := p } := by
  obtain ⟨hcap, href⟩ :=
    (show SameCapture s (s.logLocalClose k s.feeder[k]) from ⟨rfl, rfl, rfl, rfl⟩).trigger (srcTrip k)
  rw [openBreaker_trigger, hcap.cap, href, hp.1, hp.2]
  dsimp only [State.logLocalClose, State.logFeeder, log_spec]
  rw [onMove_inactive _ hact rfl, set_self, hc]
  rfl

-- ===================================================================== a reported opening (R66, R143)

section releases

variable {k : Fin 6} {s : State}

/-- A breaker that opens by itself in CLOSED is an own trip. -/
theorem externalTrip_spec {p : Cap} {r : CapRef} (h : s.feeder[k].state = .closed)
    (hp : (s.trigger (srcTrip k)).1.cap = p ∧ (s.trigger (srcTrip k)).2 = r) :
    s.externalTrip k = { s with
      feeder := s.feeder.set k { s.feeder[k] with
        state := .opening, origin := .own, element := .external, sotf := false, dest := some .decide, phase := none
        manual := false, blockCause := .none, timer := some (s.general k).tOpenMax, tripAt := s.elapsed }
      disc := s.disc.set k { s.disc[k] with
        rising := false, rise := none, imaxRun := 0, dtCount := 0, window := 0, windowOpen := false }
      sec := s.sec.set k { s.sec[k] with role := .none, itOut := true }
      events :=
        let q := pushEvent s.events
          (s.event .fpu (k.val + 1) .tripFeeder (pair Origin.own.code Element.external.code) 0 r)
        if s.sec[k].itOut = true then q
        else pushEvent q (s.event .sco (k.val + 1) .intertripSent (uword (k.val + 1)) (uword itOwn) .none)
      cap := p } := by
  unfold State.externalTrip
  rw [setItOut_spec, openBreaker_trigger, onMove_leave s.disc[k] ((active_iff _).2 (.inl h)) rfl, hp.1, hp.2]
  dsimp only
  rw [set_same, Vector.set_set]
  rfl

/-- The failed breaker of a feeder in LOCKED_OUT has opened at last. -/
theorem bfbReleases_failed (hc : s.sts.complete = true) (hst : s.feeder[k].state = .lockedOut)
    (hl : s.feeder[k].lockCause = .bf) : s.bfbReleases k = openingLogged k (s.sinceTrip k) s := by
  unfold State.bfbReleases
  rw [hc, hst, hl]
  rfl

theorem bfbReleases_opening (hc : s.sts.complete = true) (hst : s.feeder[k].state = .opening) :
    s.bfbReleases k = s.openingDone k (s.sinceTrip k) := by
  unfold State.bfbReleases
  rw [hc, hst]
  rfl

theorem bfbReleases_closed (hc : s.sts.complete = true) (hst : s.feeder[k].state = .closed) :
    s.bfbReleases k = s.externalTrip k := by
  unfold State.bfbReleases
  rw [hc, hst]
  rfl

/-- T_OPEN_MAX with the breaker open: the opening is complete. -/
theorem openExpiry_open (hst : s.feeder[k].state = .opening) (ht : s.feeder[k].timer = some 0)
    (hb : s.bfb[k].reported = false) : s.openExpiry k = s.openingDone k (s.general k).tOpenMax :=
  (if_pos ((timing_iff s k .opening).2 ⟨hst, ht⟩)).trans (if_neg (Bool.eq_false_iff.1 hb))

/-- The clearing of BREAKER_FAIL, whether it was present or not. -/
theorem causeCleared_breakerFail (k : Fin 6) (s : State) :
    s.causeCleared (.breakerFail k) = { s with
      sts := { s.sts with breakerFail := s.sts.breakerFail.set k false }
      events :=
        if s.sts.breakerFail[k] = true then
          pushEvent s.events
            (s.event .sts 0 .safeCause (safeCauseValue (.breakerFail k)) (uword causeClearedCode) .none)
        else s.events } := by
  by_cases hb : s.sts.breakerFail[k] = true
  · rw [causeCleared_spec (.breakerFail k) s hb, if_pos hb]
    rfl
  · have hfalse : s.sts.breakerFail[k] = false := Bool.eq_false_iff.2 hb
    have hsame : s.sts.breakerFail.set k false = s.sts.breakerFail := by
      rw [← hfalse, set_self]
    rw [causeCleared_absent (c := .breakerFail k) hfalse, if_neg hb, hsame]

end releases

-- ===================================================================== a reported close, by the feeder's state (R67)

section asserts

variable {k : Fin 6} {s : State} (hc : s.sts.complete = true)
include hc

theorem bfbAsserts_closing (hst : s.feeder[k].state = .closing) : s.bfbAsserts k = s.closeDone k := by
  unfold State.bfbAsserts
  rw [hc, hst]
  rfl

theorem bfbAsserts_lineTest (hst : s.feeder[k].state = .lineTest) : s.bfbAsserts k = s.testInvalid k 0 none := by
  unfold State.bfbAsserts
  rw [hc, hst]
  rfl

/-- Outside SAFE the breaker is adopted, but from BLOCKED, where it is opened again. -/
theorem bfbAsserts_adopts (hm : s.sts.mode ≠ .safe)
    (hst : s.feeder[k].state = .open ∨ s.feeder[k].state = .deadTime ∨ s.feeder[k].state = .waitPartner ∨
      s.feeder[k].state = .lockedOut) : s.bfbAsserts k = s.adoptLocal k := by
  unfold State.bfbAsserts
  obtain h | h | h | h := hst <;> simp [-Fin.getElem_fin, hc, h, hm]

theorem bfbAsserts_blocked (hm : s.sts.mode ≠ .safe) (hst : s.feeder[k].state = .blocked) :
    s.bfbAsserts k = s.blockedClose k := by
  unfold State.bfbAsserts
  simp [-Fin.getElem_fin, hc, hst, hm]

/-- In SAFE the breaker is opened again for the station. -/
theorem bfbAsserts_safe (hm : s.sts.mode = .safe)
    (hst : s.feeder[k].state = .open ∨ s.feeder[k].state = .blocked ∨ s.feeder[k].state = .lockedOut) :
    s.bfbAsserts k = s.safeClose k := by
  unfold State.bfbAsserts
  obtain h | h | h := hst <;> simp [-Fin.getElem_fin, hc, h, hm]

end asserts

theorem safeClose_blocked {k : Fin 6} {s : State} (hst : s.feeder[k].state ≠ .lockedOut) :
    s.safeClose k =
      (s.logLocalClose k s.feeder[k]).openBreaker k .station .none false .blocked .none .station (s.currentValue k) :=
  if_neg hst

theorem safeClose_lockedOut {k : Fin 6} {s : State} (hst : s.feeder[k].state = .lockedOut) :
    s.safeClose k =
      (s.logLocalClose k s.feeder[k]).openBreaker k .station .none false .lockedOut .none .none (s.currentValue k) :=
  if_pos hst

-- ===================================================================== a report handed to the sequence

/-- Settles O23: a report is handed to the sequence, whose state chooses one operation; each operation by its whole
equation. An opening completes alike by the report and by T_OPEN_MAX. -/
theorem breakerFeedbackReported : Obligations.BreakerFeedbackReported := by
  refine ⟨fun k level s hq =>
      ⟨fun h => ?same, fun h hs => ?run, fun h hs => ?early, fun hs hf => ?first, fun hf => ?idle⟩,
    fun k s hq hc hst hf hs hr => ?closing, fun k c ms b s hq hst hc hcmd => ?opening,
    fun k s hq hc hf hs hr => ⟨fun hst hb => ?external, fun hst hl => ?failed⟩,
    fun k s hq hc hf hs hr => ?asserted⟩
  case same => exact (bfbRawChange_next hq (rawChange_same h)).trans (by rw [setBfb_same])
  case run => exact bfbRawChange_next hq (rawChange_settled h hs)
  case early => exact bfbRawChange_next hq (rawChange_early h hs)
  case first => exact next_settled hq (bfbExpiry_first hf hs)
  case idle => exact next_settled hq (bfbExpiry_running hf)
  case closing =>
    exact bfbFilterExpiry_asserts hq hf hs hr (Eq.trans (bfbAsserts_closing hc hst) (closeDone_spec hst))
  case opening =>
    have hrep : b.reported = false := by
      obtain ⟨-, -, hr, rfl, -⟩ | ⟨-, -, -, -, -, rfl, -⟩ := hcmd
      · exact hr
      · rfl
    have hdone {u : State} (hu : (s.setBfb k b).openingDone k ms = u) : exec c s = .next u := by
      obtain ⟨rfl, ht, hr, rfl, rfl⟩ | ⟨rfl, hf, hs, hr, hb, rfl, rfl⟩ := hcmd
      · rw [setBfb_same] at hu
        exact next_settled hq ((openExpiry_open hst ht hr).trans hu)
      · exact bfbFilterExpiry_opens hq hf hs hr hb (Eq.trans (bfbReleases_opening hc hst) hu)
    have hact : (openingLogged k ms (s.setBfb k b)).feeder[k].state.active = false := congrArg FState.active hst
    have hbfb : (openingLogged k ms (s.setBfb k b)).bfb[k].reported = false :=
      (congrArg Bfb.reported (set_same ..)).trans hrep
    intro f q t down
    have hdown : s.partnerDown k = true ↔ down := partnerDown_iff s k
    refine ⟨fun hd => ?opened, fun hd => ?blocked, fun hd => ?lockedOut, fun hd hx => ?waits,
      fun hd hx hl hu _ => ?tests, fun hd hx hm hl _ => ?invalid⟩
    case opened => exact hdone (Eq.trans (openingDone_open hd) (enterOpen_inactive hact))
    case blocked => exact hdone (Eq.trans (openingDone_blocked hd) (enterBlocked_inactive hact _))
    case lockedOut => exact hdone (Eq.trans (openingDone_lockedOut hd) (lockOut_inactive hact _))
    case waits =>
      exact hdone (Eq.trans (openingDone_waitPartner hd) (enterWait_stays hact (Bool.eq_false_iff.2 (mt hdown.1 hx))))
    case tests =>
      exact hdone (Eq.trans (openingDone_waitPartner hd)
        ((enterWait_tests hact (hdown.2 hx)).trans (beginTest_tests hact hbfb hl (beq_false_of_ne hu))))
    case invalid =>
      exact hdone (Eq.trans (openingDone_waitPartner hd)
        ((enterWait_tests hact (hdown.2 hx)).trans (beginTest_invalid hact hbfb hm (hl.imp_right beq_iff_eq.2))))
  case external =>
    exact bfbFilterExpiry_opens hq hf hs hr hb
      (Eq.trans (bfbReleases_closed hc hst) (externalTrip_spec hst (trigger_reportedAt k false s (srcTrip k))))
  case failed =>
    have hcleared := bfbFilterExpiry_releases hq hf hs hr
      (Eq.trans (congrArg _ (bfbReleases_failed hc hst hl)) (causeCleared_breakerFail k _))
    refine ⟨_, hcleared, tripLine_released (fun h => nomatch hst.symm.trans h) ?_, rfl⟩
    exact congrArg Bfb.reported (set_same ..)
  case asserted =>
    have hand {u : State} (hu : (reportedAt k true s).bfbAsserts k = u) : exec (.bfbFilterExpiry k) s = .next u :=
      bfbFilterExpiry_asserts hq hf hs hr hu
    have htrigger := trigger_reportedAt k true s (srcTrip k)
    have hclosed : (reportedAt k true s).bfb[k].reported = true := congrArg Bfb.reported (set_same ..)
    refine ⟨fun hm => ⟨fun hst => ?adopted, fun hst => ?unlocked, fun hst => ?tested, fun hst => ?blocked⟩,
      fun hm => ⟨fun hst => ?reopened, fun hst => ?relocked⟩⟩
    case adopted =>
      have hact : s.feeder[k].state.active = false := by obtain h | h | h := hst <;> rw [h] <;> rfl
      have hfree : s.feeder[k].state ≠ .lockedOut := by obtain h | h | h := hst <;> rw [h] <;> decide
      exact hand (Eq.trans (bfbAsserts_adopts hc hm (hst.imp_right fun h => h.imp_right .inl))
        (adoptLocal_spec hact (keptCause_none hfree)))
    case unlocked =>
      exact hand (Eq.trans (bfbAsserts_adopts hc hm (.inr (.inr (.inr hst))))
        (adoptLocal_spec (congrArg FState.active hst) (keptCause_lockedOut hst)))
    case tested =>
      exact hand (Eq.trans (bfbAsserts_lineTest hc hst) (testInvalid_closed (s := reportedAt k true s) hst hclosed))
    case blocked =>
      have hfree : s.feeder[k].state ≠ .lockedOut := fun h => nomatch hst.symm.trans h
      exact hand (Eq.trans (bfbAsserts_blocked hc hm hst)
        (localClose_opened (s := reportedAt k true s) (congrArg FState.active hst) (keptCause_none hfree) htrigger ..))
    case reopened =>
      have hact : s.feeder[k].state.active = false := by obtain h | h := hst <;> rw [h] <;> rfl
      have hfree : s.feeder[k].state ≠ .lockedOut := by obtain h | h := hst <;> rw [h] <;> decide
      exact hand (Eq.trans (bfbAsserts_safe hc hm (hst.imp_right .inl)) (Eq.trans (safeClose_blocked hfree)
        (localClose_opened (s := reportedAt k true s) hact (keptCause_none hfree) htrigger ..)))
    case relocked =>
      have hact : s.feeder[k].state.active = false := congrArg FState.active hst
      exact hand (Eq.trans (bfbAsserts_safe hc hm (.inr (.inr hst))) (Eq.trans (safeClose_lockedOut hst)
        (localClose_opened (s := reportedAt k true s) hact (keptCause_lockedOut hst) htrigger ..)))

end Sys2Proof.Proofs
end

section
/-! The field terminals (R145, R159, R161..R165, R170, R177): the filter of an input, what an output shows, and the
requests on the terminals. -/
namespace Sys2Proof.Proofs

open Sys2Proof Sys2Proof.Machine Sys2Proof.Laws

-- ===================================================================== a line outside a sample (R164)

/-- The line that changes takes its level; every other keeps its own. -/
theorem setLine_same (o : Fin 16) (level : Bool) (s : State) : (s.setLine o level).lines.getLsbD o.val = level := by
  cases level <;> simp [State.setLine]

theorem setLine_other {i o : Fin 16} (h : i ≠ o) (level : Bool) (s : State) :
    (s.setLine o level).lines.getLsbD i.val = s.lines.getLsbD i.val := by
  have hne : i.val ≠ o.val := fun e => h (Fin.ext e)
  have hbit : (1#16 <<< o.val).getLsbD i.val = false := by
    simp only [BitVec.getLsbD_shiftLeft, BitVec.getLsbD_one, Bool.and_eq_false_iff, decide_eq_false_iff_not,
      Bool.not_eq_false', decide_eq_true_eq]
    omega
  cases level
  · simp only [State.setLine, Bool.false_eq_true, if_false, BitVec.getLsbD_and, BitVec.getLsbD_not, hbit, i.isLt,
      decide_true, Bool.not_false, Bool.and_true]
  · simp only [State.setLine, if_true, BitVec.getLsbD_or, hbit, Bool.or_false]

/-- A THROUGH terminal drives the level of its source's line. -/
theorem driven_through {t o : Fin 16} {s : State} (hm : s.term[t].cfg.mode = .through)
    (ho : s.term[t].cfg.source = some o) : s.driven t = some (s.lines.getLsbD o.val) := by
  unfold State.driven
  rw [hm, ho]

/-- An input drives nothing. -/
theorem driven_input {t : Fin 16} {s : State} (h : s.term[t].cfg.mode.isInput = true) : s.driven t = none := by
  unfold State.driven
  split
  case h_1 | h_2 | h_3 => rfl
  case h_4 hm | h_5 hm | h_6 hm =>
    rw [hm] at h
    cases h

-- ===================================================================== a sample (R159)

/-- A plain input takes its line's level at once. -/
theorem sample_plain {r : Terminal} (h : r.cfg.mode = .inPlain) (raw : Bool) :
    r.sample raw = { r with raw := raw, proc := raw, count := 0 } := by
  have hs : r.cfg.mode.sampled raw = raw := by rw [h]; rfl
  unfold Terminal.sample
  dsimp only
  rw [if_pos h, hs]

/-- A filtered input counts the samples that differ, and takes their level on the twentieth. -/
theorem sample_filtered {r : Terminal} {raw level : Bool} (hm : r.cfg.mode ≠ .inPlain)
    (hl : r.cfg.mode.sampled raw = level) :
    r.sample raw =
      if level = r.proc then { r with raw := raw, count := 0 }
      else if r.count < 19 then { r with raw := raw, count := r.count + 1 }
      else { r with raw := raw, proc := level, count := 0 } := by
  unfold Terminal.sample
  dsimp only
  rw [if_neg hm, hl]
  simp only [show r.count + 1 < 20 ↔ r.count < 19 by omega]

theorem sample_raw (r : Terminal) (raw : Bool) : (r.sample raw).raw = raw := by
  unfold Terminal.sample
  dsimp only
  split
  · rfl
  · split
    · rfl
    · split <;> rfl

theorem isOutput_iff (m : TermMode) : m.isOutput = true ↔ m = .outOpenDrain ∨ m = .outPushPull := by
  cases m <;> simp [TermMode.isOutput]

-- ===================================================================== the conditions driven (R145, R162, R163, R177)

theorem alarm_iff (s : State) :
    s.alarm = true ↔ s.sts.mode = .safe ∨ (∃ k : Fin 6, s.feeder[k].state = .lockedOut) ∨
      ∃ g : Fin 2, s.group[g].state = .locked := by
  simp only [State.alarm, Bool.or_eq_true, vany_iff, beq_iff_eq, or_assoc]

theorem attn_iff (s : State) :
    s.attn = true ↔ s.sts.complete = true ∧
      ((s.events ≠ [] ∧ s.station.eventAttention = true) ∨ s.cap.x.state = .full ∨ s.cap.y.state = .full ∨
        s.sts.mode = .safe) := by
  simp [State.attn, or_assoc]

/-- A contact is driven by the backup logic in FAIL, and by the rail element else. -/
theorem outLevel_rplOut {t : Fin 16} {s : State} (h : s.term[t].cfg.fn = .rplOut) :
    s.outLevel t = true ↔ s.aqu.clock = .fail ∨ s.sts.contact ≠ .released := by
  unfold State.outLevel
  rw [h]
  simp [State.inClockFail]

-- ===================================================================== the requests (R161, R165, R170)

/-- Set Output is taken after START on an output terminal with function NONE. -/
theorem maySetOutput_iff (s : State) (t : Fin 16) :
    s.maySetOutput t = true ↔ s.sts.complete = true ∧
      (s.term[t].cfg.mode = .outOpenDrain ∨ s.term[t].cfg.mode = .outPushPull) ∧ s.term[t].cfg.fn = .none := by
  simp only [State.maySetOutput, Bool.and_eq_true, isOutput_iff, beq_iff_eq, and_assoc]

/-- The bytes of a terminal and a level name them (R165, R200). -/
theorem setOutputArgs_spec (t : Fin 16) (level : Bool) :
    terminalArg [BitVec.ofNat 8 (t.val + 1), if level = true then 1 else 0] = some t ∧
      levelArg [BitVec.ofNat 8 (t.val + 1), if level = true then 1 else 0] = some level := by
  revert t level
  decide

/-- Set Output with those bytes is judged by the terminal. -/
theorem answerSetOutput_bytes (t : Fin 16) (level : Bool) (s : State) :
    s.answerSetOutput [BitVec.ofNat 8 (t.val + 1), if level = true then 1 else 0] = s.setOutputRequest t level := by
  obtain ⟨ht, hl⟩ := setOutputArgs_spec t level
  unfold State.answerSetOutput withArg
  rw [ht, hl]
  rfl

theorem terminals16_getElem (t : Fin 16) : terminals16[t.val]? = some t := by
  revert t
  decide

/-- A sample of a filtered input whose line reads a level after its polarity (R159). -/
theorem sampled_filtered {m : TermMode} (h : m = .inFiltered ∨ m = .inFilteredInverted) (raw : Bool) :
    m ≠ .inPlain ∧ m.sampled raw = if m = .inFiltered then raw else !raw := by
  obtain rfl | rfl := h <;> exact ⟨nofun, rfl⟩

/-- Settles O51: each request by its owner's answer, and each condition by what stands for it. -/
theorem terminalsFilteredSetAndRead : Obligations.TerminalsFilteredSetAndRead := by
  refine ⟨fun o level s hq => ?through, fun t level tag s hr => ⟨fun h => ?refused, fun h => ?taken⟩,
    fun tag s hr => ?read, fun r raw => ⟨sample_raw r raw, (sample_spec r raw).1, fun h => ?plain, fun h => ?filtered⟩,
    fun s => ⟨alarm_iff s, attn_iff s, fun t => ⟨fun h => ?pushPull, fun h => ?openDrain, driven_input, fun h => ?alarm,
      fun k h => ?intertrip, outLevel_rplOut, fun h => ?free⟩⟩⟩
  case through =>
    refine ⟨s.setLine o level, next_settled hq rfl, rfl, setLine_same o level s, fun i hi => setLine_other hi level s,
      fun t hm ho => ?_⟩
    rw [driven_through (s := s.setLine o level) hm ho, setLine_same]
  case refused =>
    exact answers_of_ready hr rfl (payloadFits_of_length 2 rfl)
      ((answerSetOutput_bytes t level s.heard).trans (if_neg (mt (maySetOutput_iff s t).1 h)))
  case taken =>
    exact answers_of_ready hr rfl (payloadFits_of_length 2 rfl)
      ((answerSetOutput_bytes t level s.heard).trans (if_pos ((maySetOutput_iff s t).2 h)))
  case read =>
    refine ⟨s.heard.clearChanges, terminals16.map s.heard.termView, feeders6.map s.heard.bfbClosed,
      answers_of_ready hr rfl (payloadFits_of_length 0 rfl) rfl, rfl, rfl, rfl, fun k => ?_, fun t => ⟨getElem_vmap ..,
        s.heard.termView t, ?_, rfl, rfl, rfl, rfl, rfl, rfl, fun h => if_pos h⟩⟩
    · rw [List.getElem?_map, feeders6_getElem]
      rfl
    · rw [List.getElem?_map, terminals16_getElem]
      rfl
  case plain => rw [sample_plain h]
  case filtered =>
    obtain ⟨hm, hlevel⟩ := sampled_filtered h raw
    rw [sample_filtered hm hlevel]
    refine ⟨fun hl => ?_, fun hl hn => ?_, fun hl hn => ?_⟩
    · rw [if_pos hl]
      exact ⟨rfl, rfl⟩
    · rw [if_neg hl, if_pos hn]
      exact ⟨rfl, rfl⟩
    · rw [if_neg hl, if_neg (Nat.not_lt.2 hn)]
      exact ⟨rfl, rfl⟩
  case pushPull | openDrain => simp only [State.driven, h]
  case alarm | intertrip | free => simp only [State.outLevel, h]

end Sys2Proof.Proofs
end

section
/-! The event queue: an append to the ring (R172, R173), and the requests that count and take its entries (R176). -/
namespace Sys2Proof.Proofs

open Sys2Proof Sys2Proof.Machine Sys2Proof.Laws

-- ===================================================================== the ring (R173)

theorem pushEvent_room {q : List Event} (h : q.length < 256) (e : Event) : pushEvent q e = q ++ [e] := if_pos h

/-- A full ring loses its oldest entry, and marks the one that follows. -/
theorem pushEvent_full {lost next : Event} {rest : List Event} (h : (lost :: next :: rest).length = 256) (e : Event) :
    pushEvent (lost :: next :: rest) e = { next with overflow := true } :: rest ++ [e] := by
  rw [pushEvent, if_neg (by omega), h]
  rfl

/-- Settles O52: logging is an append to the ring alone, to one with room or to a full one. -/
theorem eventAppendMarksLoss : Obligations.EventAppendMarksLoss := by
  refine fun block index kind v1 v2 ref s => ⟨fun h => ?room, fun lost next rest hq hl => ?full⟩
  case room => rw [log_spec, pushEvent_room h, State.event]
  case full =>
    have hpush := pushEvent_full (hq ▸ hl) (s.event block index kind v1 v2 ref)
    rw [log_spec, hq, hpush]
    refine ⟨rfl, ?_⟩
    rw [hq] at hl
    simpa using hl

-- ===================================================================== the requests (R176)

/-- The count of Take Events as its byte spells it. -/
theorem byteAt_ofNat {n : Nat} (h : n < 256) (rest : List Byte) : byteAt (BitVec.ofNat 8 n :: rest) 0 = n :=
  (beNat_one _).trans (by simpa using h)

theorem answerTakeEvents_eq {n : Nat} (h : n < 256) (s : State) :
    s.answerTakeEvents [BitVec.ofNat 8 n] =
      if inRange 1 8 n then ({ s with events := s.events.drop n } : State).ok (.events (s.events.take n))
      else s.badArgument 0 := by
  rw [State.answerTakeEvents, withLength_good 1 _ _ _ rfl, byteAt_ofNat h]

/-- Settles O53: the queue is what is taken and what is left. -/
theorem takeEventsRemovesOldest : Obligations.TakeEventsRemovesOldest := by
  refine fun n tag s hr hn => ⟨⟨_, answers_of_ready hr rfl (payloadFits_of_length 0 rfl) rfl, fun h => ?empty,
    fun e rest h => ?oldest⟩, fun h1 h8 => ?taken, fun h => ?refused⟩
  case empty => rw [show s.heard.events = [] from h]
  case oldest => rw [show s.heard.events = e :: rest from h]
  case taken =>
    exact ⟨s.events.take n, s.events.drop n, (List.take_append_drop n s.events).symm, List.length_take,
      answers_of_ready hr rfl (payloadFits_of_length 1 rfl)
        ((answerTakeEvents_eq hn s.heard).trans (if_pos (inRange_of h1 h8)))⟩
  case refused =>
    have hout : ¬ inRange 1 8 n = true := by
      rw [inRange, Bool.and_eq_true, decide_eq_true_iff, decide_eq_true_iff]
      omega
    exact answers_of_ready hr rfl (payloadFits_of_length 1 rfl) ((answerTakeEvents_eq hn s.heard).trans (if_neg hout))

end Sys2Proof.Proofs
end

section
/-! The one-second averages (R179, R180) and the energy counters (R181, R182). Both walk over the channels, the feeders
or the groups and change at each turn the parts of that one alone, so that each part takes its one turn. -/
namespace Sys2Proof.Proofs

open Sys2Proof Sys2Proof.Machine Sys2Proof.Laws

-- ===================================================================== one part after another

section walk

variable {σ ι β : Type} {f : σ → ι → σ} {l : List ι}

/-- What no turn changes stays. -/
theorem foldl_stays {get : σ → β} (hf : ∀ i s, get (f s i) = get s) (l : List ι) (s : σ) :
    get (l.foldl f s) = get s := by
  induction l generalizing s with
  | nil => rfl
  | cons a l ih => exact (ih (f s a)).trans (hf a s)

/-- Where each turn changes the part of its own index alone, every index of the list has its part changed once. -/
theorem foldl_part {part : σ → ι → β} {g : ι → β → β} (hself : ∀ i s, part (f s i) i = g i (part s i))
    (hother : ∀ i j s, j ≠ i → part (f s i) j = part s j) (hl : l.Nodup) (s : σ) :
    ∀ j ∈ l, part (l.foldl f s) j = g j (part s j) := by
  have hout {j : ι} {l : List ι} (hj : j ∉ l) (s : σ) : part (l.foldl f s) j = part s j := by
    induction l generalizing s with
    | nil => rfl
    | cons a l ih =>
      obtain ⟨hja, hjl⟩ := List.ne_and_not_mem_of_not_mem_cons hj
      exact (ih hjl (f s a)).trans (hother a j s hja)
  induction l generalizing s with
  | nil => exact fun j hj => absurd hj List.not_mem_nil
  | cons a l ih =>
    obtain ⟨hal, hl⟩ := List.nodup_cons.1 hl
    refine List.forall_mem_cons.2 ⟨(hout hal (f s a)).trans (hself a s), fun j hj => ?_⟩
    exact (ih hl (f s a) j hj).trans (congrArg (g j) (hother a j s fun h => hal (h ▸ hj)))

/-- A value that every turn of a kind writes, and no other turn changes: written where such a turn is in the list. -/
theorem foldl_writes {get : σ → β} {p : ι → Prop} {v : β} (hw : ∀ i s, p i → get (f s i) = v)
    (hk : ∀ i s, ¬ p i → get (f s i) = get s) (l : List ι) (s : σ) :
    ((∃ i ∈ l, p i) ∨ get s = v → get (l.foldl f s) = v) ∧ ((∀ i ∈ l, ¬ p i) → get (l.foldl f s) = get s) := by
  induction l generalizing s with
  | nil => exact ⟨fun h => h.resolve_left (by simp), fun _ => rfl⟩
  | cons a l ih =>
    obtain ⟨hin, hout⟩ := ih (f s a)
    refine ⟨fun h => hin ?_, fun h => ?_⟩
    · by_cases ha : p a
      · exact .inr (hw a s ha)
      · rw [hk a s ha]
        exact h.imp_left fun ⟨i, hi, hp⟩ => ⟨i, (List.mem_cons.1 hi).resolve_left fun e => ha (e ▸ hp), hp⟩
    · obtain ⟨ha, hl⟩ := List.forall_mem_cons.1 h
      exact (hout hl).trans (hk a s ha)

end walk

theorem mem_channels17 (c : Fin 17) : c ∈ channels17 := by
  revert c
  decide

theorem mem_groups2 (g : Fin 2) : g ∈ groups2 := by
  revert g
  decide

-- ===================================================================== averages (R179)

/-- A channel's sum and count. -/
def avgPart (a : Avg) (c : Fin 17) : Int × Nat := (a.sums[c], a.counts[c])

/-- A reading in a sum and a count: a GOOD one alone counts. -/
def addReading (r : Reading) (x : Int × Nat) : Int × Nat := if r.health = .good then (x.1 + r.value, x.2 + 1) else x

theorem add_self_part (a : Avg) (c : Fin 17) (r : Reading) : avgPart (a.add c r) c = addReading r (avgPart a c) := by
  unfold Avg.add addReading
  split
  · simp only [avgPart, set_same]
  · rfl

theorem add_other_part (a : Avg) {c d : Fin 17} (h : d ≠ c) (r : Reading) : avgPart (a.add c r) d = avgPart a d := by
  unfold Avg.add
  split
  · simp only [avgPart, set_other _ _ h]
  · rfl

theorem avgAdd_eq (a : Avg) (c : Fin 17) (r : Reading) :
    a.add c r = { a with sums := (a.add c r).sums, counts := (a.add c r).counts } := by
  unfold Avg.add
  split <;> rfl

/-- A record counts once, and no mean changes. -/
theorem avgFrame_avg (s : State) :
    s.avgFrame.avg =
      { s.avg with sums := s.avgFrame.avg.sums, counts := s.avgFrame.avg.counts, records := s.avg.records + 1 } := by
  have h := foldl_stays (f := fun (a : Avg) c => a.add c (s.reading c))
    (get := fun a => (a.records, a.means, a.meanCounts, a.period))
    (fun c a => by rw [avgAdd_eq]) channels17 s.avg
  obtain ⟨hr, hm, hc, hp⟩ : _ ∧ _ ∧ _ ∧ _ := by simpa only [Prod.mk.injEq] using h
  unfold State.avgFrame
  dsimp only
  rw [hr, hm, hc, hp]

/-- Each channel's reading is added once. -/
theorem avgFrame_part (s : State) (c : Fin 17) :
    avgPart s.avgFrame.avg c = addReading (s.reading c) (avgPart s.avg c) :=
  foldl_part (f := fun (a : Avg) c => a.add c (s.reading c)) (part := avgPart)
    (g := fun c => addReading (s.reading c)) (fun c a => add_self_part a c _) (fun _ _ a h => add_other_part a h _)
    (by decide : channels17.Nodup) s.avg c (mem_channels17 c)

theorem avgFrame_good {s : State} {c : Fin 17} (h : (s.reading c).health = .good) :
    s.avgFrame.avg.sums[c] = s.avg.sums[c] + (s.reading c).value ∧
      s.avgFrame.avg.counts[c] = s.avg.counts[c] + 1 :=
  Prod.mk.injEq .. ▸ (avgFrame_part s c).trans (if_pos h)

theorem avgFrame_notGood {s : State} {c : Fin 17} (h : (s.reading c).health ≠ .good) :
    s.avgFrame.avg.sums[c] = s.avg.sums[c] ∧ s.avgFrame.avg.counts[c] = s.avg.counts[c] :=
  Prod.mk.injEq .. ▸ (avgFrame_part s c).trans (if_neg h)

theorem meansOf_getElem (a : Avg) (c : Fin 17) : a.meansOf[c] = meanOf a.sums[c] a.counts[c] :=
  foldl_reaches (f := fun (v : Vector (Option Int) 17) (c : Fin 17) => v.set c (meanOf a.sums[c] a.counts[c]))
    (P := fun c v => v[c] = meanOf a.sums[c] a.counts[c]) (fun c v => set_same v c _)
    (fun c d v h => by
      by_cases hd : d = c
      · rw [hd, set_same]
      · rw [set_other _ _ hd, h])
    channels17 _ c (mem_channels17 c)

-- ===================================================================== one counted frame (R181)

theorem energyStep_delivers {acc p : Int} (h : 14400000 ≤ acc + p) :
    energyStep acc p = (acc + p - 14400000, true, false) := if_pos h

theorem energyStep_returns {acc p : Int} (h : acc + p ≤ -14400000) :
    energyStep acc p = (acc + p + 14400000, false, true) := by
  have hd : ¬ wattHour ≤ acc + p := by unfold wattHour; omega
  exact (if_neg hd).trans (if_pos h)

theorem energyStep_below {acc p : Int} (h : -14400000 < acc + p) (h' : acc + p < 14400000) :
    energyStep acc p = (acc + p, false, false) := by
  have hd : ¬ wattHour ≤ acc + p := by unfold wattHour; omega
  have hr : ¬ acc + p ≤ -wattHour := by unfold wattHour; omega
  exact (if_neg hd).trans (if_neg hr)

/-- An accumulator within a watt-hour stays within one, and what it gives up is counted (R181). -/
theorem energyStep_spec {acc p : Int} (ha : -14400000 < acc) (ha' : acc < 14400000) (hp : -12000000 ≤ p)
    (hp' : p ≤ 12000000) :
    (energyStep acc p).1 < 14400000 ∧ -14400000 < (energyStep acc p).1 ∧
    ¬ ((energyStep acc p).2.1 = true ∧ (energyStep acc p).2.2 = true) ∧
    ((energyStep acc p).2.1 = true ↔ 14400000 ≤ acc + p) ∧
    ((energyStep acc p).2.2 = true ↔ acc + p ≤ -14400000) ∧
    (energyStep acc p).1 + 14400000 * (if (energyStep acc p).2.1 = true then 1 else 0) -
      14400000 * (if (energyStep acc p).2.2 = true then 1 else 0) = acc + p := by
  obtain h | h | ⟨h, h'⟩ :
      14400000 ≤ acc + p ∨ acc + p ≤ -14400000 ∨ (-14400000 < acc + p ∧ acc + p < 14400000) := by omega
  · rw [energyStep_delivers h]
    refine ⟨?_, ?_, nofun, iff_of_true rfl h, iff_of_false nofun (by omega), by simp⟩ <;> dsimp only <;> omega
  · rw [energyStep_returns h]
    refine ⟨?_, ?_, nofun, iff_of_false nofun (by omega), iff_of_true rfl h, by simp⟩ <;> dsimp only <;> omega
  · rw [energyStep_below h h']
    exact ⟨h', h, nofun, iff_of_false nofun (by omega), iff_of_false nofun (by omega), by simp⟩

-- ===================================================================== energy (R181, R182)

/-- A frame counts for a current where it and UB are both GOOD. -/
abbrev counts (s : State) (c : Fin 17) : Prop := (s.reading chUB).health = .good ∧ (s.reading c).health = .good

/-- The power of a current on a frame. -/
def power (s : State) (c : Fin 17) : Int := (s.reading chUB).value * (s.reading c).value

/-- Feeder k's accumulator and counters. -/
def feederPart (e : Energy) (k : Fin 6) : Int × Word32 × Word32 := (e.acc[k], e.delivered[k], e.returned[k])

/-- Group g's accumulator and counter. -/
def groupPart (e : Energy) (g : Fin 2) : Int × Word32 := (e.groupAcc[g], e.groupDelivered[g])

/-- A feeder's accumulator and counters after a counted frame of power p. -/
def feederCounted (p : Int) (x : Int × Word32 × Word32) : Int × Word32 × Word32 :=
  ((energyStep x.1 p).1, countOne x.2.1 (energyStep x.1 p).2.1, countOne x.2.2 (energyStep x.1 p).2.2)

/-- A group's accumulator and counter after a counted frame of power p. -/
def groupCounted (p : Int) (x : Int × Word32) : Int × Word32 :=
  ((energyStep x.1 p).1, countOne x.2 (energyStep x.1 p).2.1)

section counted

variable {p a : Int} {d r : Word32}

theorem feederCounted_delivers (h : 14400000 ≤ a + p) :
    feederCounted p (a, d, r) = (a + p - 14400000, d + 1, r) := by
  rw [feederCounted, energyStep_delivers h]
  rfl

theorem feederCounted_returns (h : a + p ≤ -14400000) :
    feederCounted p (a, d, r) = (a + p + 14400000, d, r + 1) := by
  rw [feederCounted, energyStep_returns h]
  rfl

theorem feederCounted_below (h : -14400000 < a + p) (h' : a + p < 14400000) :
    feederCounted p (a, d, r) = (a + p, d, r) := by
  rw [feederCounted, energyStep_below h h']
  rfl

theorem groupCounted_delivers (h : 14400000 ≤ a + p) : groupCounted p (a, d) = (a + p - 14400000, d + 1) := by
  rw [groupCounted, energyStep_delivers h]
  rfl

theorem groupCounted_below (h : -14400000 < a + p) (h' : a + p < 14400000) : groupCounted p (a, d) = (a + p, d) := by
  rw [groupCounted, energyStep_below h h']
  rfl

end counted

/-- A feeder's turn: its own part where the frame counts for it; no other feeder's, and no group's. -/
theorem feederEnergy_self (s : State) (e : Energy) (k : Fin 6) :
    feederPart (s.feederEnergy e k) k =
      if counts s (chIF k) then feederCounted (power s (chIF k)) (feederPart e k) else feederPart e k := by
  unfold State.feederEnergy
  dsimp only
  split
  · simp only [feederPart, set_same, feederCounted, power]
  · rfl

theorem feederEnergy_other (s : State) (e : Energy) {k j : Fin 6} (h : j ≠ k) :
    feederPart (s.feederEnergy e k) j = feederPart e j := by
  unfold State.feederEnergy
  dsimp only
  split
  · simp only [feederPart, set_other _ _ h]
  · rfl

theorem feederEnergy_groupPart (s : State) (e : Energy) (k : Fin 6) :
    groupPart (s.feederEnergy e k) = groupPart e := by
  unfold State.feederEnergy
  dsimp only
  split <;> rfl

theorem feederEnergy_lastCounted (s : State) (e : Energy) (k : Fin 6) :
    (s.feederEnergy e k).lastCounted = if counts s (chIF k) then s.aqu.latest.number else e.lastCounted := by
  unfold State.feederEnergy
  dsimp only
  split <;> rfl

/-- A group's turn, likewise. -/
theorem groupEnergy_self (s : State) (e : Energy) (g : Fin 2) :
    groupPart (s.groupEnergy e g) g =
      if counts s (chIG g) then groupCounted (power s (chIG g)) (groupPart e g) else groupPart e g := by
  unfold State.groupEnergy
  dsimp only
  split
  · simp only [groupPart, set_same, groupCounted, power]
  · rfl

theorem groupEnergy_other (s : State) (e : Energy) {g h : Fin 2} (hne : h ≠ g) :
    groupPart (s.groupEnergy e g) h = groupPart e h := by
  unfold State.groupEnergy
  dsimp only
  split
  · simp only [groupPart, set_other _ _ hne]
  · rfl

theorem groupEnergy_feederPart (s : State) (e : Energy) (g : Fin 2) :
    feederPart (s.groupEnergy e g) = feederPart e := by
  unfold State.groupEnergy
  dsimp only
  split <;> rfl

theorem groupEnergy_lastCounted (s : State) (e : Energy) (g : Fin 2) :
    (s.groupEnergy e g).lastCounted = if counts s (chIG g) then s.aqu.latest.number else e.lastCounted := by
  unfold State.groupEnergy
  dsimp only
  split <;> rfl

/-- Each feeder takes the record once. -/
theorem energyFrame_feederPart (s : State) (k : Fin 6) :
    feederPart s.energyFrame.energy k =
      if counts s (chIF k) then feederCounted (power s (chIF k)) (feederPart s.energy k)
      else feederPart s.energy k := by
  have hgroups := foldl_stays (get := feederPart) (fun g e => groupEnergy_feederPart s e g) groups2
    (feeders6.foldl s.feederEnergy s.energy)
  refine (congrFun hgroups k).trans ?_
  exact foldl_part (part := feederPart)
    (g := fun k x => if counts s (chIF k) then feederCounted (power s (chIF k)) x else x)
    (fun k e => feederEnergy_self s e k) (fun _ _ e h => feederEnergy_other s e h) feeders6_nodup s.energy k
    (mem_feeders6 k)

/-- Each group takes the record once. -/
theorem energyFrame_groupPart (s : State) (g : Fin 2) :
    groupPart s.energyFrame.energy g =
      if counts s (chIG g) then groupCounted (power s (chIG g)) (groupPart s.energy g)
      else groupPart s.energy g := by
  have hfeeders := foldl_stays (get := groupPart) (fun k e => feederEnergy_groupPart s e k) feeders6 s.energy
  rw [← hfeeders]
  exact foldl_part (part := groupPart)
    (g := fun g x => if counts s (chIG g) then groupCounted (power s (chIG g)) x else x)
    (fun g e => groupEnergy_self s e g) (fun _ _ e h => groupEnergy_other s e h) (by decide : groups2.Nodup) _ g
    (mem_groups2 g)

/-- The latest counted frame is one that an accumulator took (log 27). -/
theorem energyFrame_lastCounted (s : State) :
    ((∃ k : Fin 6, counts s (chIF k)) ∨ (∃ g : Fin 2, counts s (chIG g)) →
      s.energyFrame.energy.lastCounted = s.aqu.latest.number) ∧
    ((∀ k : Fin 6, ¬ counts s (chIF k)) → (∀ g : Fin 2, ¬ counts s (chIG g)) →
      s.energyFrame.energy.lastCounted = s.energy.lastCounted) := by
  obtain ⟨hf, hf'⟩ := foldl_writes (f := s.feederEnergy) (get := Energy.lastCounted) (p := fun k => counts s (chIF k))
    (fun k e h => (feederEnergy_lastCounted s e k).trans (if_pos h))
    (fun k e h => (feederEnergy_lastCounted s e k).trans (if_neg h)) feeders6 s.energy
  obtain ⟨hg, hg'⟩ := foldl_writes (f := s.groupEnergy) (get := Energy.lastCounted) (p := fun g => counts s (chIG g))
    (fun g e h => (groupEnergy_lastCounted s e g).trans (if_pos h))
    (fun g e h => (groupEnergy_lastCounted s e g).trans (if_neg h)) groups2 (feeders6.foldl s.feederEnergy s.energy)
  refine ⟨fun h => hg ?_, fun hk hn => (hg' fun g _ => hn g).trans (hf' fun k _ => hk k)⟩
  obtain ⟨k, hk⟩ | ⟨g, hc⟩ := h
  · exact .inr (hf (.inl ⟨k, mem_feeders6 k, hk⟩))
  · exact .inl ⟨g, mem_groups2 g, hc⟩

section outcomes

variable {s : State}

/-- A record that does not count for feeder k leaves its accumulator and counters. -/
theorem feeder_uncounted {k : Fin 6} (hc : ¬ counts s (chIF k)) :
    s.energyFrame.energy.acc[k] = s.energy.acc[k] ∧
      s.energyFrame.energy.delivered[k] = s.energy.delivered[k] ∧
      s.energyFrame.energy.returned[k] = s.energy.returned[k] :=
  (Prod.mk.inj ((energyFrame_feederPart s k).trans (if_neg hc))).imp_right Prod.mk.inj

/-- One that counts gives up a watt-hour delivered, or one returned, or none. -/
theorem feeder_delivers {k : Fin 6} (hc : counts s (chIF k)) (h : 14400000 ≤ s.energy.acc[k] + power s (chIF k)) :
    s.energyFrame.energy.acc[k] = s.energy.acc[k] + power s (chIF k) - 14400000 ∧
      s.energyFrame.energy.delivered[k] = s.energy.delivered[k] + 1 ∧
      s.energyFrame.energy.returned[k] = s.energy.returned[k] :=
  (Prod.mk.inj (((energyFrame_feederPart s k).trans (if_pos hc)).trans (feederCounted_delivers h))).imp_right
    Prod.mk.inj

theorem feeder_returns {k : Fin 6} (hc : counts s (chIF k)) (h : s.energy.acc[k] + power s (chIF k) ≤ -14400000) :
    s.energyFrame.energy.acc[k] = s.energy.acc[k] + power s (chIF k) + 14400000 ∧
      s.energyFrame.energy.delivered[k] = s.energy.delivered[k] ∧
      s.energyFrame.energy.returned[k] = s.energy.returned[k] + 1 :=
  (Prod.mk.inj (((energyFrame_feederPart s k).trans (if_pos hc)).trans (feederCounted_returns h))).imp_right
    Prod.mk.inj

theorem feeder_below {k : Fin 6} (hc : counts s (chIF k)) (h : -14400000 < s.energy.acc[k] + power s (chIF k))
    (h' : s.energy.acc[k] + power s (chIF k) < 14400000) :
    s.energyFrame.energy.acc[k] = s.energy.acc[k] + power s (chIF k) ∧
      s.energyFrame.energy.delivered[k] = s.energy.delivered[k] ∧
      s.energyFrame.energy.returned[k] = s.energy.returned[k] :=
  (Prod.mk.inj (((energyFrame_feederPart s k).trans (if_pos hc)).trans (feederCounted_below h h'))).imp_right
    Prod.mk.inj

/-- A group's accumulator and its one counter, likewise. -/
theorem group_uncounted {g : Fin 2} (hc : ¬ counts s (chIG g)) :
    s.energyFrame.energy.groupAcc[g] = s.energy.groupAcc[g] ∧
      s.energyFrame.energy.groupDelivered[g] = s.energy.groupDelivered[g] :=
  Prod.mk.inj ((energyFrame_groupPart s g).trans (if_neg hc))

theorem group_delivers {g : Fin 2} (hc : counts s (chIG g))
    (h : 14400000 ≤ s.energy.groupAcc[g] + power s (chIG g)) :
    s.energyFrame.energy.groupAcc[g] = s.energy.groupAcc[g] + power s (chIG g) - 14400000 ∧
      s.energyFrame.energy.groupDelivered[g] = s.energy.groupDelivered[g] + 1 :=
  Prod.mk.inj (((energyFrame_groupPart s g).trans (if_pos hc)).trans (groupCounted_delivers h))

theorem group_below {g : Fin 2} (hc : counts s (chIG g)) (h : -14400000 < s.energy.groupAcc[g] + power s (chIG g))
    (h' : s.energy.groupAcc[g] + power s (chIG g) < 14400000) :
    s.energyFrame.energy.groupAcc[g] = s.energy.groupAcc[g] + power s (chIG g) ∧
      s.energyFrame.energy.groupDelivered[g] = s.energy.groupDelivered[g] :=
  Prod.mk.inj (((energyFrame_groupPart s g).trans (if_pos hc)).trans (groupCounted_below h h'))

end outcomes

-- ===================================================================== the record taken

/-- The capture store takes the record of a frame trigger from averages and energy as they stood, and every later
consumer leaves what it makes of them. -/
theorem frame_storeTakes {lines : BitVec 16} {s : State} (h : s.aqu.clock = .good) :
    ∃ u : State, u.avg = s.avg ∧ u.energy = s.energy ∧ Reacts u.storeTakesFrame (s.frame lines) := by
  rw [frame_good lines s h]
  have hsampled := sampleTerminals_reacts { s.advance 250 with lines := lines }
  generalize ({ s.advance 250 with lines := lines } : State).sampleTerminals = v at hsampled ⊢
  have hadv : (s.advance 250).avg = s.avg ∧ (s.advance 250).energy = s.energy := by
    rw [advance_spec]
    exact ⟨rfl, rfl⟩
  exact ⟨{ v with aqu := v.aqu.publish }, hsampled.avg.trans hadv.1, hsampled.energy.trans hadv.2, consume_reacts _⟩

/-- Settles O54: the means by the walk over the channels, the readers by their answers, and a frame by what the capture
store makes of its record. -/
theorem averagesAndEnergyFormed : Obligations.AveragesAndEnergyFormed := by
  refine ⟨fun tag s => ⟨fun h => ?means, fun hr => ⟨?measurements, ?energy⟩⟩, fun lines s hq h => ?frame,
    fun acc p ha ha' hp hp' => energyStep_spec ha ha' hp hp'⟩
  case means =>
    have hdue : s.averageDue = true := beq_iff_eq.2 h
    refine ⟨s.averageTaken, rfl, ?_⟩
    rw [State.averageTaken, if_pos hdue]
    exact ⟨rfl, rfl, rfl, rfl, fun c => ⟨Vector.getElem_replicate c.isLt, Vector.getElem_replicate c.isLt,
      meansOf_getElem s.avg c⟩⟩
  case measurements => exact answers_of_ready hr rfl (payloadFits_of_length 0 rfl) rfl
  case energy => exact answers_of_ready hr rfl (payloadFits_of_length 0 rfl) rfl
  case frame =>
    refine ⟨s.frame lines, next_settled hq rfl, ?_⟩
    obtain ⟨u, havg, henergy, hr⟩ := frame_storeTakes (lines := lines) h
    generalize s.frame lines = t at hr ⊢
    have hreading : t.reading = u.captureFrame.reading := by
      unfold State.reading
      rw [hr.aqu]
      rfl
    have hnumber : t.aqu.latest.number = u.captureFrame.avgFrame.aqu.latest.number := by
      rw [hr.aqu]
      rfl
    rw [hr.avg, hr.energy, hreading, hnumber, ← havg, ← henergy]
    exact ⟨avgFrame_avg u.captureFrame, fun c => ⟨avgFrame_good, avgFrame_notGood⟩,
      fun k => ⟨feeder_uncounted, fun hc => ⟨feeder_delivers hc, feeder_returns hc, feeder_below hc⟩⟩,
      fun g => ⟨group_uncounted, fun hc => ⟨group_delivers hc, group_below hc⟩⟩,
      energyFrame_lastCounted u.captureFrame.avgFrame⟩

end Sys2Proof.Proofs
end

section
/-! The capture store (R184..R192, R202): triggers, the arming test, the completion of a record, and the
requests. -/
namespace Sys2Proof.Proofs

open Sys2Proof Sys2Proof.Machine Sys2Proof.Laws

variable {s : State}

-- ===================================================================== the live buffer (R184)

theorem live_iff (b : CapBuf) : b.live = true ↔ b.state = .armed ∨ b.state = .recording := by
  simp [CapBuf.live]

theorem live_of_armed {b : CapBuf} (h : b.state = .armed) : b.live = true := (live_iff b).2 (.inl h)
theorem live_of_recording {b : CapBuf} (h : b.state = .recording) : b.live = true := (live_iff b).2 (.inr h)

theorem not_live_of_idle {b : CapBuf} (h : b.state = .idle) : b.live = false := by rw [CapBuf.live, h]; rfl
theorem not_live_of_full {b : CapBuf} (h : b.state = .full) : b.live = false := by rw [CapBuf.live, h]; rfl

theorem capLive_x {c : Cap} (h : c.x.live = true) : c.live = some .x := if_pos h

theorem capLive_none {c : Cap} (hx : c.x.live = false) (hy : c.y.live = false) : c.live = none := by
  rw [Cap.live, hx, hy]
  rfl

-- ===================================================================== triggers (R186)

/-- The first trigger of an ARMED buffer X begins its record. -/
theorem trigger_starts {n : Nat} (h : s.cap.active.triggers.getLsbD n = true) (hx : s.cap.x.state = .armed) :
    s.trigger n = ({ s with cap := { s.cap with x := s.startRecord n s.cap.x } }, .x) := by
  have harmed : (s.cap.buf .x).state = .armed := hx
  rw [trigger_taken n .x s h (capLive_x (live_of_armed hx)), if_pos harmed]
  rfl

/-- A trigger of a RECORDING buffer X joins its record. -/
theorem trigger_joins {n : Nat} (h : s.cap.active.triggers.getLsbD n = true) (hx : s.cap.x.state = .recording) :
    s.trigger n = ({ s with cap := { s.cap with x := s.joinRecord n s.cap.x } }, .x) := by
  have hne : ¬ (s.cap.buf .x).state = .armed := fun h => nomatch hx.symm.trans h
  rw [trigger_taken n .x s h (capLive_x (live_of_recording hx)), if_neg hne]
  rfl

-- ===================================================================== arming (R184)

/-- A buffer as it is armed with a descriptor. -/
def armedWith (d : Descriptor) : CapBuf := { CapBuf.idle with state := .armed, desc := d }

theorem armTest_disabled (h : s.cap.enabled = false) : s.armTest = s := by simp [State.armTest, h]

theorem armTest_live {b : BufId} (h : s.cap.live = some b) : s.armTest = s := by simp [State.armTest, h]

theorem armTest_toggle (he : s.cap.enabled = true) (hl : s.cap.live = none)
    (ht : (s.cap.buf s.cap.toggle).state = .idle) :
    s.armTest = { s with
      cap := { s.cap.setBuf s.cap.toggle (armedWith s.cfg.capture) with
        active := s.cfg.capture, toggle := s.cap.toggle } } := by
  rw [State.armTest, if_pos ⟨he, hl⟩, if_pos ht]
  rfl

/-- With no buffer live, X named by the toggle and IDLE is armed. -/
theorem armTest_x (he : s.cap.enabled = true) (ht : s.cap.toggle = .x) (hx : s.cap.x.state = .idle)
    (hy : s.cap.y.live = false) :
    s.armTest = { s with cap := { s.cap with x := armedWith s.cfg.capture, active := s.cfg.capture } } := by
  rw [armTest_toggle he (capLive_none (not_live_of_idle hx) hy) (by rw [ht]; exact hx)]
  simp only [ht, Cap.setBuf]

theorem armTest_none_idle (ht : (s.cap.buf s.cap.toggle).state ≠ .idle)
    (ho : (s.cap.buf s.cap.toggle.other).state ≠ .idle) : s.armTest = s := by
  rw [State.armTest, if_neg ht, if_neg ho, ite_self]

-- ===================================================================== completion (R187)

/-- A record that reaches its post frames with no stop pending ends POST_DONE. -/
theorem finish_postDone {b : CapBuf} (hs : b.stop = none) (hf : b.stopFrame = false) :
    b.finish = { b with state := .full, actualPost := b.frames.length - b.actualPre, cause := .postDone } := by
  cases b
  cases hs
  cases hf
  rfl

theorem captureDue_x (hx : s.cap.x.state = .recording)
    (hp : s.cap.x.desc.post ≤ s.cap.x.frames.length - s.cap.x.actualPre) : s.captureDue = some .x := by
  refine if_pos ?_
  simp [CapBuf.complete, hx, CapBuf.postFrames, hp]

/-- Settles O55: a trigger by the state of the buffer it finds, and the completion by the arming test after it. -/
theorem triggersRecordAndComplete : Obligations.TriggersRecordAndComplete := by
  refine ⟨fun src s _ => ⟨trigger_ignored src s, fun h hx hy => trigger_missed src s h (capLive_none hx hy),
    fun h hx => ⟨_, _, trigger_starts h hx, rfl, rfl, rfl, rfl, rfl, rfl, rfl⟩,
    fun h hx => ⟨fun hn => ⟨s.triggerEntry src s.cap.x, ?listed, rfl⟩, fun hn => ?counted⟩⟩,
    fun s hx hs hf hp he hy => ?complete⟩
  case listed => rw [trigger_joins h hx, State.joinRecord, if_pos hn]
  case counted => rw [trigger_joins h hx, State.joinRecord, if_neg (Nat.not_lt.2 hn)]
  case complete =>
    refine congrArg Host.Outcome.next ?_
    rw [State.captureTaken, captureDue_x hx hp]
    dsimp only
    rw [State.completeCapture]
    dsimp only [Cap.buf]
    rw [finish_postDone hs hf]
    exact armTest_toggle he (capLive_none rfl (not_live_of_idle hy)) hy

-- ===================================================================== reading a record (R190, R202)

theorem numberFrames_length (n : Word32) (l : List (List Reading)) : (numberFrames n l).length = l.length := by
  induction l generalizing n with
  | nil => rfl
  | cons f l ih => exact congrArg (· + 1) (ih (n + 1))

/-- Frames are numbered one after another. -/
theorem numberFrames_getElem (n : Word32) (l : List (List Reading)) (i : Nat) :
    (numberFrames n l)[i]? = l[i]?.map fun f => { number := n + BitVec.ofNat 32 i, slot := f } := by
  induction l generalizing n i with
  | nil => rfl
  | cons f l ih =>
    cases i with
    | zero => simp [numberFrames]
    | succ i =>
      have hnext : (1 : Word32) + BitVec.ofNat 32 i = BitVec.ofNat 32 (i + 1) := by
        rw [Nat.add_comm, BitVec.ofNat_add]
        rfl
      rw [numberFrames, List.getElem?_cons_succ, List.getElem?_cons_succ, ih, BitVec.add_assoc, hnext]

/-- As many frames are read as are applied for. -/
theorem read_length {b : CapBuf} {first : Nat} (count : Nat) (hl : b.frames.length = b.length) :
    (b.read first count).length = b.countApplied first count := by
  rw [CapBuf.read, numberFrames_length, List.length_take, List.length_drop, hl]
  exact Nat.min_eq_left ((Nat.min_le_left ..).trans (Nat.min_le_right ..))

/-- Each frame read is the record's, from the first on, with its number. -/
theorem read_getElem {b : CapBuf} {first count i : Nat} (hi : i < (b.read first count).length) :
    ∃ slot, b.frames[first + i]? = some slot ∧
      (b.read first count)[i]? = some { number := b.first + BitVec.ofNat 32 (first + i), slot := slot } := by
  rw [CapBuf.read, numberFrames_length, List.length_take, List.length_drop] at hi
  have hin : first + i < b.frames.length := by omega
  refine ⟨b.frames[first + i], List.getElem?_eq_getElem hin, ?_⟩
  rw [CapBuf.read, numberFrames_getElem, List.getElem?_take_of_lt (by omega), List.getElem?_drop,
    List.getElem?_eq_getElem hin, BitVec.add_assoc, ← BitVec.ofNat_add]
  rfl

-- ===================================================================== the requests (R188..R192)

/-- The byte of a buffer names it (section 11.3). -/
theorem bufferArg_spec (b : BufId) (rest : List Byte) : bufferArg ((if b = .x then 0 else 1) :: rest) = some b := by
  cases b <;> rfl

/-- The bytes of a Read Capture. -/
def readCaptureBytes (b : BufId) (first count : Nat) : List Byte :=
  [if b = .x then 0 else 1] ++ beBytes 2 first ++ [BitVec.ofNat 8 count]

theorem readCaptureBytes_eq (b : BufId) (first count : Nat) :
    readCaptureBytes b first count =
      [if b = .x then 0 else 1, BitVec.ofNat 8 (first / 256), BitVec.ofNat 8 first, BitVec.ofNat 8 count] := by
  simp [readCaptureBytes, beBytes]

/-- Read Capture with those bytes is judged by the buffer. -/
theorem answerReadCapture_bytes {b : BufId} {first count : Nat} (hf : first < 4096) (h1 : 1 ≤ count)
    (h32 : count ≤ 32) (s : State) :
    s.answerReadCapture (readCaptureBytes b first count) = s.readCaptureRequest b first count := by
  have hfirst : field (readCaptureBytes b first count) 1 2 = first := by
    rw [readCaptureBytes_eq]
    exact (beNat_two first).trans (Nat.mod_eq_of_lt (by omega))
  have hcount : byteAt (readCaptureBytes b first count) 3 = count := by
    rw [readCaptureBytes_eq]
    exact (beNat_one _).trans (by rw [BitVec.toNat_ofNat]; omega)
  have hbuf : bufferArg (readCaptureBytes b first count) = some b := bufferArg_spec b _
  rw [State.answerReadCapture, hfirst, hcount, hbuf, inRange_of (Nat.zero_le _) (by omega), inRange_of h1 h32]
  rfl

theorem readCaptureBytes_fit (b : BufId) (first count : Nat) : payloadFits (readCaptureBytes b first count) = true :=
  payloadFits_of_length 4 (by rw [readCaptureBytes_eq]; rfl)

/-- Release Capture with a buffer's byte is judged by the buffer. -/
theorem answerReleaseCapture_byte (b : BufId) (s : State) :
    s.answerReleaseCapture [if b = .x then 0 else 1] =
      if (s.cap.buf b).state = .full then (s.releaseTaken b).ok .empty else s.refuse .empty := by
  rw [State.answerReleaseCapture, bufferArg_spec]
  rfl

/-- With the capture disabled a released buffer stays IDLE. -/
theorem releaseTaken_disabled (b : BufId) (h : s.cap.enabled = false) :
    s.releaseTaken b = { s with cap := s.cap.setBuf b .idle } :=
  armTest_disabled (s := { s with cap := s.cap.setBuf b .idle }) (by cases b <;> exact h)

/-- A request heard is no change to what a trigger looks at. -/
theorem trigger_heard (n : Nat) (s : State) :
    s.heard.trigger n = ({ s.heard with cap := (s.trigger n).1.cap }, (s.trigger n).2) := by
  obtain ⟨⟨hcap, _, _, _⟩, href⟩ := SameCapture.trigger (s := s) (t := s.heard) ⟨rfl, rfl, rfl, rfl⟩ n
  obtain ⟨c, hc⟩ := trigger_spec n s.heard
  rw [← hcap, ← href]
  exact Prod.ext (by rw [hc]) rfl

-- ===================================================================== Stop, Enable and Disable (R188, R189)

/-- What ending a buffer leaves: no ring from ARMED, a stop pending from RECORDING. -/
theorem end_armed {b : CapBuf} (h : b.state = .armed) (why : DoneCause) : b.end why = .idle := if_pos h

theorem end_recording {b : CapBuf} (h : b.state = .recording) (hs : b.stop = none) (why : DoneCause) :
    b.end why = { b with stop := some why } := by
  have hne : ¬ b.state = .armed := fun ha => nomatch h.symm.trans ha
  have hsome : ¬ b.stop.isSome = true := by simp [hs]
  rw [CapBuf.end, if_neg hne, if_neg hsome]

theorem endLive_x (why : DoneCause) (s : State) :
    s.endLive .x why = { s with cap := { s.cap with x := s.cap.x.end why } } := rfl

/-- Stop on an ARMED buffer X discards its ring and arms it afresh. -/
theorem stopLive_armed (h : s.cap.x.state = .armed) (he : s.cap.enabled = true) (ht : s.cap.toggle = .x)
    (hy : s.cap.y.live = false) :
    s.stopLive .x = { s with cap := { s.cap with x := armedWith s.cfg.capture, active := s.cfg.capture } } := by
  have harmed : (s.cap.buf .x).state = .armed := h
  rw [State.stopLive, if_pos harmed, endLive_x, end_armed h]
  exact armTest_x (s := { s with cap := { s.cap with x := .idle } }) he ht rfl hy

theorem stopLive_recording (h : s.cap.x.state = .recording) (hs : s.cap.x.stop = none) :
    s.stopLive .x = { s with cap := { s.cap with x := { s.cap.x with stop := some .stopped } } } := by
  have hne : ¬ (s.cap.buf .x).state = .armed := fun ha => nomatch h.symm.trans ha
  rw [State.stopLive, if_neg hne, endLive_x, end_recording h hs]

theorem answerStopCapture_live {b : BufId} (h : s.cap.live = some b) :
    s.answerStopCapture [] = (s.stopLive b).ok .empty := by
  rw [State.answerStopCapture, h]
  rfl

theorem answerStopCapture_none (h : s.cap.live = none) : s.answerStopCapture [] = s.refuse .empty := by
  rw [State.answerStopCapture, h]
  rfl

/-- Enable arms X where it is IDLE, and otherwise finds no buffer to arm: one is live, or both are FULL. -/
theorem enableCaptureTaken_idle (h : s.cap.x.state = .idle) (ht : s.cap.toggle = .x) (hy : s.cap.y.live = false) :
    s.enableCaptureTaken = { s with
      cap := { s.cap with enabled := true, x := armedWith s.cfg.capture, active := s.cfg.capture } } :=
  armTest_x (s := { s with cap := { s.cap with enabled := true } }) rfl ht h hy

theorem enableCaptureTaken_notIdle (h : s.cap.x.state ≠ .idle) (ht : s.cap.toggle = .x) (hy : s.cap.y.state ≠ .idle) :
    s.enableCaptureTaken = { s with cap := { s.cap with enabled := true } } :=
  armTest_none_idle (s := { s with cap := { s.cap with enabled := true } }) (by rw [ht]; exact h) (by rw [ht]; exact hy)

/-- Disable ends what the live buffer does, and arms none. -/
theorem disableCaptureTaken_x (h : s.cap.x.live = true) :
    s.disableCaptureTaken = { s with cap := { s.cap with enabled := false, x := s.cap.x.end .disabled } } := by
  have hl : ({ s.cap with enabled := false } : Cap).live = some .x := capLive_x h
  rw [State.disableCaptureTaken]
  dsimp only
  rw [hl]
  rfl

theorem disableCaptureTaken_none (h : s.cap.live = none) :
    s.disableCaptureTaken = { s with cap := { s.cap with enabled := false } } := by
  have hl : ({ s.cap with enabled := false } : Cap).live = none := h
  rw [State.disableCaptureTaken]
  dsimp only
  rw [hl]

theorem answerTriggerCapture_heard (s : State) :
    s.heard.answerTriggerCapture [] =
      ({ s.heard with cap := (s.trigger srcManual).1.cap } : State).ok (.answer (s.trigger srcManual).2) := by
  have ha : s.heard.answerTriggerCapture [] =
      (s.heard.trigger srcManual).1.ok (.answer (s.heard.trigger srcManual).2) := rfl
  rw [ha, trigger_heard]

/-- An empty request of a ready port, by the answer of its owner. -/
theorem answers_empty {c : Instr} {kind tag : Byte} {answer : List Byte → State → Answer} {t u : State} {st : Status}
    {p : Payload} (hr : s.ready) (hc : exec c s = .next (s.settle.request kind tag [] (answer [])))
    (ha : answer [] s.heard = { state := t, status := st, payload := p }) (ht : t = u) : Answers c s kind tag u st p :=
  ht ▸ answers_of_ready hr hc (payloadFits_of_length 0 rfl) ha

/-- Settles O56: each request by the state of the buffer that it finds. -/
theorem captureRequestsAnswered : Obligations.CaptureRequestsAnswered := by
  refine ⟨fun b first count tag s hr hf h1 h32 => ⟨?status, fun hb => ?unread, fun hb hlen => ?outside,
    fun hb hlt hlen => ?read, fun hb => ?unreleased, fun hb he => ?released, ?trigger⟩,
    fun tag s hr hy ht => ⟨fun hx => ?notLive, fun hx => ?enableIdle, fun hx => ?enable, fun hx he => ?armed,
      fun hx hs => ?recording⟩⟩
  case status =>
    exact ⟨s.cap.x.view, s.cap.y.view, answers_of_ready hr rfl (payloadFits_of_length 0 rfl) rfl, rfl, rfl, rfl, rfl⟩
  case unread =>
    exact answers_of_ready hr rfl (readCaptureBytes_fit b first count)
      ((answerReadCapture_bytes hf h1 h32 s.heard).trans (if_pos hb))
  case outside =>
    exact answers_of_ready hr rfl (readCaptureBytes_fit b first count)
      ((answerReadCapture_bytes hf h1 h32 s.heard).trans ((if_neg (not_not.2 hb)).trans (if_pos hlen)))
  case read =>
    have ha := (answerReadCapture_bytes hf h1 h32 s.heard).trans
      ((if_neg (not_not.2 hb)).trans (if_neg (Nat.not_le.2 hlt)))
    exact ⟨(s.cap.buf b).read first count, answers_of_ready hr rfl (readCaptureBytes_fit b first count) ha,
      read_length count hlen, fun i hi => read_getElem hi⟩
  case unreleased =>
    exact answers_of_ready hr rfl (payloadFits_of_length 1 rfl)
      ((answerReleaseCapture_byte b s.heard).trans (if_neg hb))
  case released =>
    have hrel := releaseTaken_disabled (s := s.heard) b he
    exact answers_of_ready hr rfl (payloadFits_of_length 1 rfl)
      ((answerReleaseCapture_byte b s.heard).trans ((if_pos hb).trans (congrArg (State.ok · .empty) hrel)))
  case trigger => exact answers_of_ready hr rfl (payloadFits_of_length 0 rfl) (answerTriggerCapture_heard s)
  all_goals have hylive : s.heard.cap.y.live = false := not_live_of_full hy
  case notLive =>
    have hl : s.heard.cap.live = none := capLive_none (hx.elim not_live_of_idle not_live_of_full) hylive
    exact ⟨answers_of_ready hr rfl (payloadFits_of_length 0 rfl) (answerStopCapture_none hl),
      answers_empty hr rfl rfl (disableCaptureTaken_none hl)⟩
  case enableIdle =>
    exact answers_empty hr rfl rfl (enableCaptureTaken_idle (s := s.heard) hx ht hylive)
  case enable =>
    have hyidle : s.heard.cap.y.state ≠ .idle := fun h => nomatch hy.symm.trans h
    exact answers_empty hr rfl rfl (enableCaptureTaken_notIdle (s := s.heard) hx ht hyidle)
  case armed =>
    have hlive : s.heard.cap.x.live = true := live_of_armed hx
    have hstop := answerStopCapture_live (capLive_x hlive)
    have hdis := disableCaptureTaken_x hlive
    rw [end_armed (b := s.heard.cap.x) hx] at hdis
    exact ⟨answers_empty hr rfl hstop (stopLive_armed (s := s.heard) hx he ht hylive),
      _, answers_empty hr rfl rfl hdis, rfl, rfl, rfl, rfl, rfl⟩
  case recording =>
    have hlive : s.heard.cap.x.live = true := live_of_recording hx
    have hstop := answerStopCapture_live (capLive_x hlive)
    have hdis := disableCaptureTaken_x hlive
    rw [end_recording (b := s.heard.cap.x) hx hs] at hdis
    exact ⟨answers_empty hr rfl hstop (stopLive_recording (s := s.heard) hx hs),
      answers_empty hr rfl rfl hdis⟩

end Sys2Proof.Proofs
end

section
/-! The control message port (chapter 10): what its receiver makes of characters (R194..R196), a request received whole
during a reply (R152, R198, R204), and what is judged before the owner is asked (R200). -/
namespace Sys2Proof.Proofs

open Sys2Proof Sys2Proof.Machine Sys2Proof.Laws

-- ===================================================================== the fields of a frame (R194)

/-- A field ignores what follows it. -/
theorem field_append {r : List Byte} {off len : Nat} (h : off + len ≤ r.length) (rest : List Byte) :
    field (r ++ rest) off len = field r off len := by
  rw [field, field, List.drop_append_of_le_length (by omega),
    List.take_append_of_le_length (by rw [List.length_drop]; omega)]

/-- The length field is the two characters after the start character, most significant first. -/
theorem field_length {body : List Byte} (h : 2 ≤ body.length) (start : Byte) :
    field (start :: body) 1 2 = 256 * (body[0]?.getD 0).toNat + (body[1]?.getD 0).toNat := by
  match body, h with
  | hi :: lo :: rest, _ => simp [field, beNat, Nat.mul_comm]

/-- The CRC-16 of a frame is its last two characters, taken over what stands between them and the start. -/
theorem frameChecks_frame {body crc : List Byte} (h : crc.length = 2) (start : Byte) :
    frameChecks (start :: (body ++ crc)) = (beNat crc == (crc16 body).toNat) := by
  have hcrc : (start :: (body ++ crc)).length = body.length + 1 + 2 := by simp [h]
  simp [frameChecks, hcrc]

/-- A frame whose CRC-16 spells the register over its body checks. -/
theorem frameChecks_crc16 (body : List Byte) (start : Byte) :
    frameChecks (start :: (body ++ beBytes 2 (crc16 body).toNat)) = true := by
  have hcrc : beNat (beBytes 2 (crc16 body).toNat) = (crc16 body).toNat := field_beBytes (k := 2) (crc16 body).isLt
  rw [frameChecks_frame (beBytes_length 2 _), hcrc, beq_self_eq_true]

-- ===================================================================== the receiver (R195, R196)

/-- s with its receiver gathering a frame, rx of it so far. -/
def gathering (rx : List Byte) (s : State) : State := s.setCmp { s.cmp with receiving := true, rx := rx }

/-- rx is the beginning of a frame, and not yet the whole of it: no character of it has ended the frame. -/
def Unfinished (rx : List Byte) : Prop :=
  rx.length < 3 ∨ (3 ≤ field rx 1 2 ∧ field rx 1 2 ≤ 515 ∧ rx.length < frameLength rx)

section receiver

variable {s : State} {rx : List Byte} {c : Byte}

theorem character_dropped (h : s.cmp.receiving = false) (hc : c ≠ 0xA5) : s.character c = s := by
  unfold State.character
  rw [h]
  exact if_neg hc

theorem character_start (h : s.cmp.receiving = false) : s.character 0xA5 = gathering [0xA5] s := by
  simp [State.character, h, gathering]

/-- The four things that a character does to a frame that is being gathered. -/
theorem character_gathering :
    (gathering rx s).character c =
      if (rx ++ [c]).length < 3 then gathering (rx ++ [c]) s
      else if !inRange 3 515 (field (rx ++ [c]) 1 2) then s.hunt
      else if (rx ++ [c]).length < frameLength (rx ++ [c]) then gathering (rx ++ [c]) s
      else s.frameEnd (rx ++ [c]) := rfl

theorem character_unfinished (h : Unfinished (rx ++ [c])) : (gathering rx s).character c = gathering (rx ++ [c]) s := by
  rw [character_gathering]
  obtain hshort | ⟨hlo, hhi, hlen⟩ := h
  · rw [if_pos hshort]
  · rw [inRange_of hlo hhi, if_pos hlen, if_neg (c := (!true) = true) (by decide), ite_self]

theorem character_badLength (hlen : 3 ≤ (rx ++ [c]).length)
    (h : field (rx ++ [c]) 1 2 < 3 ∨ 515 < field (rx ++ [c]) 1 2) : (gathering rx s).character c = s.hunt := by
  have hout : inRange 3 515 (field (rx ++ [c]) 1 2) = false := by
    simp only [inRange, Bool.and_eq_false_iff, decide_eq_false_iff_not]
    omega
  rw [character_gathering, if_neg (by omega), hout]
  rfl

theorem character_last (hlo : 3 ≤ field (rx ++ [c]) 1 2) (hhi : field (rx ++ [c]) 1 2 ≤ 515)
    (h : (rx ++ [c]).length = frameLength (rx ++ [c])) : (gathering rx s).character c = s.frameEnd (rx ++ [c]) := by
  have hlen : frameLength (rx ++ [c]) = 5 + field (rx ++ [c]) 1 2 := rfl
  rw [character_gathering, if_neg (by omega), inRange_of hlo hhi, if_neg (by decide), if_neg (Nat.not_lt.2 h.ge)]

/-- What is gathered before an unfinished frame is itself unfinished. -/
theorem Unfinished.of_append {rest : List Byte} (h : Unfinished (rx ++ rest)) : Unfinished rx := by
  by_cases hshort : rx.length < 3
  · exact .inl hshort
  · have hlen : (rx ++ rest).length = rx.length + rest.length := List.length_append
    have hfield := field_append (r := rx) (off := 1) (len := 2) (by omega) rest
    rw [Unfinished, frameLength, hfield] at h
    rw [Unfinished, frameLength]
    omega

theorem characters_append (l m : List Byte) (s : State) :
    State.characters (l ++ m) s = State.characters m (State.characters l s) := by
  induction l generalizing s with
  | nil => rfl
  | cons c l ih => exact ih _

/-- A HUNTING receiver drops every character other than the start character. -/
theorem characters_dropped {chars : List Byte} (h : s.cmp.receiving = false) (hc : ∀ c ∈ chars, c ≠ 0xA5) :
    State.characters chars s = s := by
  induction chars with
  | nil => rfl
  | cons c chars ih =>
    rw [State.characters, character_dropped h (hc c List.mem_cons_self)]
    exact ih fun d hd => hc d (List.mem_cons_of_mem c hd)

/-- The characters of an unfinished frame are gathered one after another. -/
theorem characters_gathering {l : List Byte} (h : Unfinished (rx ++ l)) :
    State.characters l (gathering rx s) = gathering (rx ++ l) s := by
  induction l generalizing rx with
  | nil => rw [List.append_nil, State.characters]
  | cons c l ih =>
    rw [List.append_cons] at h ⊢
    rw [State.characters, character_unfinished h.of_append, ih h]

theorem characters_unfinished {l : List Byte} (hs : s.cmp.receiving = false) (h : Unfinished (0xA5 :: l)) :
    State.characters (0xA5 :: l) s = gathering (0xA5 :: l) s := by
  rw [State.characters, character_start hs]
  exact characters_gathering h

/-- A whole frame comes to its end with its last character. -/
theorem characters_frame {frame : List Byte} (hs : s.cmp.receiving = false) (hlo : 3 ≤ field (0xA5 :: frame) 1 2)
    (hhi : field (0xA5 :: frame) 1 2 ≤ 515) (hlen : (0xA5 :: frame).length = frameLength (0xA5 :: frame)) :
    State.characters (0xA5 :: frame) s = s.frameEnd (0xA5 :: frame) := by
  have hcount : frame.length + 1 = 5 + field (0xA5 :: frame) 1 2 := hlen
  obtain ⟨l, c, rfl⟩ := (List.eq_nil_or_concat' frame).resolve_left (List.ne_nil_of_length_pos (by omega))
  rw [List.length_append, List.length_singleton] at hcount
  have hfield : field (0xA5 :: (l ++ [c])) 1 2 = field (0xA5 :: l) 1 2 :=
    field_append (r := 0xA5 :: l) (by rw [List.length_cons]; omega) [c]
  have hl : Unfinished (0xA5 :: l) := by
    rw [Unfinished, frameLength, List.length_cons]
    omega
  rw [← List.cons_append, characters_append, characters_unfinished hs hl]
  exact character_last hlo hhi hlen

/-- A frame whose length field is below 3 or above 515 is discarded with that field. -/
theorem characters_badLength {body : List Byte} (hs : s.cmp.receiving = false) (hbody : body.length = 2)
    (h : field (0xA5 :: body) 1 2 < 3 ∨ 515 < field (0xA5 :: body) 1 2) :
    State.characters (0xA5 :: body) s = s.hunt := by
  match body, hbody with
  | [hi, lo], _ =>
    have hfirst : Unfinished [0xA5, hi] := .inl (by simp)
    have hpre := characters_unfinished hs hfirst
    calc State.characters [0xA5, hi, lo] s
        = (State.characters [0xA5, hi] s).character lo := rfl
      _ = (gathering [0xA5, hi] s).character lo := by rw [hpre]
      _ = s.hunt := character_badLength (by simp) h

/-- A frame abandoned without its end is forgotten. -/
theorem abandon_gathering (how : Abandon) : (gathering rx s).abandon how = s.abandon how := by
  cases how <;> rfl

end receiver

-- ===================================================================== a frame that checks (R195, R196, log 22)

section controlFrame

variable (kind tag status : Byte) (payload : List Byte)

theorem controlFrame_length : (controlFrame kind tag status payload).length = payload.length + 8 := by
  simp [controlFrame, beBytes_length]
  omega

theorem field_controlFrame (h : payload.length ≤ 512) :
    field (controlFrame kind tag status payload) 1 2 = payload.length + 3 := by
  calc field (controlFrame kind tag status payload) 1 2
      = field (beBytes 2 (payload.length + 3)) 0 2 := rfl
    _ = payload.length + 3 := field_beBytes (by omega)

theorem frameRequest_controlFrame :
    frameRequest (controlFrame kind tag status payload) = some (kind, tag, payload) := by
  simp [frameRequest, controlFrame, beBytes]

/-- A whole frame that checks is its request received whole. -/
theorem characters_controlFrame {s : State} (hp : payload.length ≤ 512) (hs : s.cmp.receiving = false) :
    State.characters (controlFrame kind tag status payload) s =
      s.hunt.takeRequest kind tag (State.judge kind payload) := by
  have hfield := field_controlFrame kind tag status payload hp
  have hlen : (controlFrame kind tag status payload).length = frameLength (controlFrame kind tag status payload) := by
    rw [controlFrame_length, frameLength, hfield]
    omega
  have hchecks : frameChecks (controlFrame kind tag status payload) = true := frameChecks_crc16 _ 0xA5
  calc State.characters (controlFrame kind tag status payload) s
      = s.frameEnd (controlFrame kind tag status payload) :=
        characters_frame hs (hfield.symm ▸ by omega) (hfield.symm ▸ by omega) hlen
    _ = s.hunt.takeRequest kind tag (State.judge kind payload) := by
        rw [State.frameEnd, if_pos hchecks, frameRequest_controlFrame]

end controlFrame

/-- A request that a frame can carry is received whole. -/
theorem request_fits {pl : List Byte} (h : pl.length ≤ 512) (kind tag : Byte) (answer : State → Answer) (s : State) :
    s.request kind tag pl answer = s.hunt.takeRequest kind tag answer := if_pos (decide_eq_true h)

/-- Settles O58: the whole frame gathered, and the request taken at its end. -/
theorem goodFrameIsRequest : Obligations.GoodFrameIsRequest := by
  intro kind tag status payload s hp hs hq
  calc exec (.controlFrameDiscarded (controlFrame kind tag status payload)) s
      = .next (s.hunt.takeRequest kind tag (State.judge kind payload)) :=
        next_settled hq (characters_controlFrame kind tag status payload hp hs)
    _ = exec (.unknownRequest kind tag payload) s := (next_settled hq (request_fits hp kind tag _ s)).symm

-- ===================================================================== what is judged first (R200)

/-- A kind outside the catalogue has no owner. -/
theorem judge_unknown {kind : Byte} (h : kind ∉ catalogue) (pl : List Byte) (s : State) :
    s.judge kind pl = s.unknownKind := by
  have hn : kind.toNat ∉ catalogue.map BitVec.toNat := fun hm => by
    obtain ⟨k, hk, he⟩ := List.mem_map.1 hm
    exact h (BitVec.eq_of_toNat_eq he ▸ hk)
  unfold State.judge
  split
  case h_40 => rfl
  all_goals
    rename_i heq
    exact absurd (by rw [heq]; decide) hn

theorem withArg_none {α : Type} {n : Nat} {pl : List Byte} {arg : Option α} (hl : pl.length = n) (ha : arg = none)
    (s : State) (f : α → Answer) : withArg n pl arg s f = s.badArgument 0 := by
  unfold withArg
  rw [withLength_good _ _ _ _ hl, ha]

/-- A first argument out of 1..n names nothing. -/
theorem index1_byteAt_outside {n : Nat} {b : Byte} (h : b.toNat = 0 ∨ n < b.toNat) (rest : List Byte) :
    index1 n (byteAt (b :: rest) 0) = none := by
  have hbyte : byteAt (b :: rest) 0 = b.toNat := beNat_one b
  exact dif_neg (by omega)

/-- A level other than INACTIVE and ACTIVE is named at its own offset. -/
theorem answerSetOutput_badLevel {n : Byte} (h : 1 < n.toNat) (s : State) :
    s.answerSetOutput [1, n] = s.badArgument 1 := by
  have hbyte : byteAt [1, n] 1 = n.toNat := beNat_one n
  have hlevel : levelArg [1, n] = none := by
    rw [levelArg, hbyte, if_neg (by omega), if_neg (by omega)]
  have hterm : terminalArg [1, n] = some 0 := rfl
  unfold State.answerSetOutput withArg
  rw [withLength_good 2 _ _ _ rfl, hterm]
  dsimp only
  rw [hlevel]

/-- Settles O57: the receiver's part by what is gathered at the end, the judgement by the first test that fails. -/
theorem framesDiscardedRequestsJudged : Obligations.FramesDiscardedRequestsJudged := by
  refine ⟨fun body crc gathered chars late s hq hs => ⟨fun hc => ?dropped, fun hl hn => ?length,
    fun hlo hhi hl hc hne => ?crc, fun hpart => ?abandoned⟩,
    fun kind tag n pl s hr => ⟨fun hk hf => ?kind, fun hf hl => ?feederLength, fun hf hl => ?voltageLength,
      fun hn => ?feeder, fun hn => ?terminal, fun hn => ?level⟩⟩
  case dropped => exact next_settled hq (characters_dropped hs hc)
  case length =>
    rw [← field_length (by omega) 0xA5] at hn
    exact next_settled hq (characters_badLength hs hl hn)
  case crc =>
    have hfield : field (0xA5 :: (body ++ crc)) 1 2 =
        256 * (body[0]?.getD 0).toNat + (body[1]?.getD 0).toNat :=
      (field_append (r := 0xA5 :: body) (by rw [List.length_cons]; omega) crc).trans (field_length (by omega) 0xA5)
    have hbad : ¬ frameChecks (0xA5 :: (body ++ crc)) = true := by
      rw [frameChecks_frame hc, beq_iff_eq]
      exact hne
    have hframe := characters_frame (frame := body ++ crc) hs (hfield ▸ hlo) (hfield ▸ hhi)
      (by rw [frameLength, hfield, List.length_cons, List.length_append]; omega)
    exact next_settled hq (hframe.trans (if_neg hbad))
  case abandoned =>
    have hgathered : Unfinished (0xA5 :: gathered) := by
      by_cases hshort : gathered.length < 2
      · exact .inl (Nat.succ_lt_succ hshort)
      · rw [Unfinished, frameLength, field_length (by omega), List.length_cons]
        omega
    have habandon (how : Abandon) :
        exec (.controlFrameAbandoned (0xA5 :: gathered) how) s = .next (s.abandon how) :=
      next_settled (f := fun s => (s.characters (0xA5 :: gathered)).abandon how) hq
        ((congrArg (State.abandon how) (characters_unfinished hs hgathered)).trans (abandon_gathering how))
    exact ⟨habandon _, fun hlate => (habandon _).trans (congrArg _ (character_dropped rfl hlate)),
      (habandon _).trans (congrArg _ (character_start rfl))⟩
  case kind => exact answers_of_ready hr rfl (decide_eq_true hf) (judge_unknown hk pl s.heard)
  case feederLength => exact answers_of_ready hr rfl (decide_eq_true hf) (withLength_bad 1 pl s.heard _ hl)
  case voltageLength => exact answers_of_ready hr rfl (decide_eq_true hf) (withLength_bad 2 pl s.heard _ hl)
  case feeder =>
    exact answers_of_ready hr rfl (payloadFits_of_length 1 rfl)
      (withArg_none rfl (index1_byteAt_outside hn _) s.heard _)
  case terminal =>
    exact answers_of_ready hr rfl (payloadFits_of_length 2 rfl)
      (withArg_none rfl (index1_byteAt_outside hn _) s.heard _)
  case level => exact answers_of_ready hr rfl (payloadFits_of_length 2 rfl) (answerSetOutput_badLevel hn s.heard)

-- ===================================================================== a request during a reply (R198, R204)

section busy

variable {kind tag : Byte} {pl : List Byte} {answer : State → Answer} {s : State} {r : Reply}

theorem request_busy (hp : s.sts.present = true) (hf : pl.length ≤ 512) (hr : s.cmp.reply = some r)
    (hrestart : s.cmp.restartPending = false) (hb : s.cmp.busy = none) :
    s.request kind tag pl answer = { s.heard with cmp := { s.heard.cmp with busy := some (kind, tag) } } := by
  have hh : s.hunt.hostHeard = s.heard := hostHeard_present s hp
  rw [request_fits hf, takeRequest_busy kind tag answer s.hunt r (hh ▸ hrestart) (hh ▸ hr) (hh ▸ hb), hh]
  rfl

theorem request_discarded (hp : s.sts.present = true) (hf : pl.length ≤ 512) (hr : s.cmp.reply = some r)
    (h : s.cmp.restartPending = true ∨ s.cmp.busy ≠ none) : s.request kind tag pl answer = s.heard := by
  have hh : s.hunt.hostHeard = s.heard := hostHeard_present s hp
  have hbusy : s.heard.cmp.restartPending = true ∨
      (s.heard.cmp.reply.isSome = true ∧ s.heard.cmp.busy.isSome = true) :=
    h.imp id fun hb => ⟨Option.isSome_of_eq_some hr, Option.isSome_iff_ne_none.2 hb⟩
  rw [request_fits hf, takeRequest_discarded kind tag answer s.hunt (hh.symm ▸ hbusy), hh]

/-- The end of a reply that no BUSY reply follows. -/
theorem replyDone_idle (hr : s.cmp.reply = some r) (hrestart : s.cmp.restartPending = false) (hb : s.cmp.busy = none) :
    s.replyDone = { s with cmp := { s.cmp with reply := none } } := by
  unfold State.replyDone
  rw [hr, hrestart, hb]
  rfl

/-- The BUSY reply follows the reply in progress. -/
theorem replyDone_busy (hr : s.cmp.reply = some r) (hrestart : s.cmp.restartPending = false)
    (hb : s.cmp.busy = some (kind, tag)) :
    s.replyDone = { s with
      cmp := { s.cmp with
        reply := some { kind := kind + 0x80, tag := tag, status := .busy, payload := .empty }, busy := none } } := by
  unfold State.replyDone
  rw [hr, hrestart, hb]
  rfl

end busy

/-- Settles O59: each row is a request of its kind, which a busy port records or discards whatever its owner answers. -/
theorem busyReplyFollowsReply : Obligations.BusyReplyFollowsReply := by
  intro kind tag pl r c s hq hp hr hf hc
  have hrequest : ∃ answer, exec c s = .next (s.settle.request kind tag pl answer) := by
    obtain rfl | ⟨rfl, rfl⟩ | ⟨rfl, rfl⟩ | ⟨rfl, rfl⟩ | ⟨rfl, rfl⟩ := hc <;> exact ⟨_, rfl⟩
  obtain ⟨answer, hexec⟩ := hrequest
  rw [hexec]
  refine ⟨fun h => ?discarded, fun hrestart => ⟨fun hb => ⟨?recorded, ?ends⟩, fun hb => ?follows⟩⟩
  case discarded => exact next_settled hq (request_discarded hp hf hr h)
  case recorded => exact next_settled hq (request_busy hp hf hr hrestart hb)
  case ends => exact next_settled hq (replyDone_idle hr hrestart hb)
  case follows => exact next_settled hq (replyDone_busy hr hrestart hb)

end Sys2Proof.Proofs
end

section
/-! The step: what it makes of a queue with a command in front and of an empty one (logs 3 and 4). -/
namespace Sys2Proof.Proofs

open Sys2Proof Sys2Proof.Machine

/-- The front command leaves the queue before it runs. -/
theorem step_front (c : Instr) (rest : List Instr) (s : State) :
    step { s with pending := c :: rest } = exec c { s with pending := rest } :=
  rfl

theorem step_idle {s : State} (hempty : s.pending = []) : step s = .next s := by
  unfold step
  rw [hempty]

/-- Settles O1: the two forms of the queue, each by its equation. -/
theorem stepRunsFrontCommand : Obligations.StepRunsFrontCommand :=
  ⟨step_front, fun _ hempty => step_idle hempty⟩

end Sys2Proof.Proofs
end
